-- ==== Sys2Proof/Word.lean ====
section
/-! DEFINITION. The byte, fixed-size banks of like things, and the plainest arithmetic of the manual's conventions
(section 0.4). -/

namespace Sys2Proof

/-- The byte of frames, answers and telegrams (R183, R211). -/
abbrev Byte := BitVec 8

/-- A fixed number `n` of like things, numbered from 0 (inputs, units, slots). -/
structure Bank (α : Type) (n : Nat) where
  cells : List α
  size : cells.length = n
deriving DecidableEq, Repr

variable {α β : Type} {n : Nat}

def Bank.get (b : Bank α n) (i : Fin n) : α := b.cells.get (i.cast b.size.symm)

def Bank.set (b : Bank α n) (i : Fin n) (x : α) : Bank α n :=
  ⟨b.cells.set i.val x, by simp [b.size]⟩

def Bank.fill (n : Nat) (x : α) : Bank α n := ⟨List.replicate n x, by simp⟩

def Bank.ofFn (f : Fin n → α) : Bank α n := ⟨List.ofFn f, by simp⟩

/-- Adds one to a counter that stops at `top` (section 0.4, Widths). -/
def satSucc (top c : Nat) : Nat := if c < top then c + 1 else c

/-- The top of a 16-bit saturating count. -/
def top16 : Nat := 65535

/-- The top of a 32-bit saturating count. -/
def top32 : Nat := 4294967295

/-- Brings a number to the nearer end of `lo..hi` (section 0.4, Clamped and refused). -/
def clampNat (lo hi v : Nat) : Nat := min hi (max lo v)

/-- Brings a signed number to the nearer end of `lo..hi`. -/
def clampInt (lo hi v : Int) : Int := min hi (max lo v)

end Sys2Proof
end

