-- ==== Sys2Proof/Syntax.lean ====
section
/-! DEFINITION. The commands of the 614: one constructor for each row of spec/opcode_table.json, in the table's order. A frame
of a port carries the port and its argument bytes (R183, R211); an event of a line carries what the line shows. -/

namespace Sys2Proof

/-- The three ports (section 0.3, Port). -/
inductive Port
  | a
  | b
  | c
deriving DecidableEq, Repr

/-- The level of a line. -/
inductive Level
  | low
  | high
deriving DecidableEq, Repr

/-- What FIBRE_PHASE_EDGE reports (R30): the light takes a new level, or a change of level has stood for 50 µs, so that it is no
glitch but a phase edge. -/
inductive FibreChange
  | moves (level : Level)
  | stands
deriving DecidableEq, Repr

/-- The steps of the part. -/
inductive Instr
  /-- STATION_SECOND_BOUNDARY (R1). -/
  | stationSecondBoundary
  /-- SEC_OUT_PULSE_END (R23). -/
  | secOutPulseEnd
  /-- ELAPSED_TENTH (R120). -/
  | elapsedTenth
  /-- FIBRE_PHASE_EDGE (R30). -/
  | fibrePhaseEdge (change : FibreChange)
  /-- PATTERN_TIMEOUT (R31). -/
  | patternTimeout
  /-- PATTERN_COMPLETE (R32). -/
  | patternComplete
  /-- MARK_SILENCE_EXPIRY (R16). -/
  | markSilenceExpiry
  /-- HOLDOVER_GROWTH (R19). -/
  | holdoverGrowth
  /-- FIBRE_PRESENCE_EXPIRY (R38). -/
  | fibrePresenceExpiry
  /-- PEER_PRESENCE_EXPIRY (R38). -/
  | peerPresenceExpiry
  /-- READ_CLOCK (R24). -/
  | readClock (p : Port) (args : List Byte)
  /-- SET_CLOCK (R25). -/
  | setClock (p : Port) (args : List Byte)
  /-- SET_DATE (R20). -/
  | setDate (p : Port) (args : List Byte)
  /-- READ_SOURCE (R40). -/
  | readSource (p : Port) (args : List Byte)
  /-- REARM_SOURCE (R36). -/
  | rearmSource (p : Port) (args : List Byte)
  /-- SET_MARK_WINDOW (R41). -/
  | setMarkWindow (p : Port) (args : List Byte)
  /-- SET_LINE_MARKS (R42). -/
  | setLineMarks (p : Port) (args : List Byte)
  /-- TELEGRAM_JUDGED (R48). The bits that the receiver read, the first first. -/
  | telegramJudged (bits : List Bool)
  /-- BROKEN_START_BIT (R47). -/
  | brokenStartBit
  /-- TELEGRAM_SENT (R51). -/
  | telegramSent
  /-- ARBITRATION_LOSS (R52). -/
  | arbitrationLoss
  /-- ID_CLASH (R53). -/
  | idClash
  /-- SEND_FAULT (R53). -/
  | sendFault
  /-- SET_LINE_ROLE (R56). -/
  | setLineRole (p : Port) (args : List Byte)
  /-- SET_LINE (R57). -/
  | setLine (p : Port) (args : List Byte)
  /-- READ_LINE (R60). -/
  | readLine (p : Port) (args : List Byte)
  /-- TRIP_LEADING_EDGE (R66). -/
  | tripLeadingEdge (i : Fin 16)
  /-- TRIP_TRAILING_EDGE (R68). -/
  | tripTrailingEdge (i : Fin 16)
  /-- ASSERT_QUALIFIES (R67). -/
  | assertQualifies (i : Fin 16)
  /-- RELEASE_QUALIFIES (R68). -/
  | releaseQualifies (i : Fin 16)
  /-- ALLOW_INPUT (R73). -/
  | allowInput (p : Port) (args : List Byte)
  /-- SET_INPUT (R76). -/
  | setInput (p : Port) (args : List Byte)
  /-- SET_CHATTER_INTERVAL (R77). -/
  | setChatterInterval (p : Port) (args : List Byte)
  /-- READ_INPUTS (R78). -/
  | readInputs (p : Port) (args : List Byte)
  /-- READ_INPUT (R79). -/
  | readInput (p : Port) (args : List Byte)
  /-- READ_LOG (R87). -/
  | readLog (p : Port) (args : List Byte)
  /-- SEEK_LOG (R88). -/
  | seekLog (p : Port) (args : List Byte)
  /-- READ_LOG_STATE (R89). -/
  | readLogState (p : Port) (args : List Byte)
  /-- FIRST_OUT_WINDOW_CLOSE (R96). -/
  | firstOutWindowClose
  /-- BURST_GAP_EXPIRY (R97). -/
  | burstGapExpiry
  /-- ACK_BURST (R102). -/
  | ackBurst (p : Port) (args : List Byte)
  /-- LIST_BURSTS (R105). -/
  | listBursts (p : Port) (args : List Byte)
  /-- READ_BURST (R106). -/
  | readBurst (p : Port) (args : List Byte)
  /-- SET_FILTER (R107). -/
  | setFilter (p : Port) (args : List Byte)
  /-- SET_BURST_GAP (R108). -/
  | setBurstGap (p : Port) (args : List Byte)
  /-- READ_FILTERS (R109). -/
  | readFilters (p : Port) (args : List Byte)
  /-- UNIT_CODE_CHANGE (R114). The unit and its new code. -/
  | unitCodeChange (u : Fin 8) (code : BitVec 4)
  /-- SETTLE_EXPIRY (R115). -/
  | settleExpiry (u : Fin 8)
  /-- SET_MODE_TABLE (R116). -/
  | setModeTable (p : Port) (args : List Byte)
  /-- SET_UNITS (R117). -/
  | setUnits (p : Port) (args : List Byte)
  /-- SET_SERVICE_LIMIT (R125). -/
  | setServiceLimit (p : Port) (args : List Byte)
  /-- PRESET_TALLY (R126). -/
  | presetTally (p : Port) (args : List Byte)
  /-- READ_UNIT (R127). -/
  | readUnit (p : Port) (args : List Byte)
  /-- READ_UNITS (R128). -/
  | readUnits (p : Port) (args : List Byte)
  /-- READ_MODE_TABLE (R129). -/
  | readModeTable (p : Port) (args : List Byte)
  /-- PROGRAM_END (R139). Whether the verify agrees. -/
  | programEnd (verified : Bool)
  /-- INTERVAL_TIMER_EXPIRY (R141). -/
  | intervalTimerExpiry
  /-- HOURLY_TIMER_EXPIRY (R142). -/
  | hourlyTimerExpiry
  /-- SET_COMMIT_INTERVAL (R143). -/
  | setCommitInterval (p : Port) (args : List Byte)
  /-- READ_STORE (R154). -/
  | readStore (p : Port) (args : List Byte)
  /-- WARNING_ENTRY (R145). -/
  | warningEntry
  /-- SUPPLY_RESTORE_RISE (R144). -/
  | supplyRestoreRise
  /-- SUPPLY_RESTORE_FALL (R144). -/
  | supplyRestoreFall
  /-- RETURN_TO_NORMAL (R146). -/
  | returnToNormal
  /-- RETAIN_ENTRY (R147). -/
  | retainEntry
  /-- WARM_START (R149). -/
  | warmStart
  /-- BACKUP_CELL_LOST (R148). -/
  | backupCellLost
  /-- COLD_START (R150). -/
  | coldStart
  /-- HANDOVER_WINDOW_EXPIRY (R165). -/
  | handoverWindowExpiry
  /-- BELL_PULSE_END (R174). -/
  | bellPulseEnd
  /-- OPEN_HANDOVER (R164). -/
  | openHandover (p : Port) (args : List Byte)
  /-- RELEASE_SHIFT (R166). -/
  | releaseShift (p : Port) (args : List Byte)
  /-- ACCEPT_SHIFT (R167). -/
  | acceptShift (p : Port) (args : List Byte)
  /-- FORCE_HANDOVER (R169). -/
  | forceHandover (p : Port) (args : List Byte)
  /-- CANCEL_HANDOVER (R170). -/
  | cancelHandover (p : Port) (args : List Byte)
  /-- SET_SCHEDULE (R160). -/
  | setSchedule (p : Port) (args : List Byte)
  /-- SET_SHIFT_TIMES (R177). -/
  | setShiftTimes (p : Port) (args : List Byte)
  /-- READ_SHIFT (R175). -/
  | readShift (p : Port) (args : List Byte)
  /-- READ_SHIFT_RECORD (R176). -/
  | readShiftRecord (p : Port) (args : List Byte)
  /-- FETCH (R185). The byte after the code, and the bits clocked in after it, in the order of their clock edges. With length byte
  0 the row is the moment at which that byte is complete, before any of those bits (log entry 22). -/
  | fetch (p : Port) (lengthByte : Byte) (clocked : List Bool)
  /-- BROKEN_FRAME (R183). The clock edges since select fell, and the bytes that they clocked in, the last byte filled up. -/
  | brokenFrame (p : Port) (edges : Nat) (bytes : List Byte)
  /-- UNKNOWN_COMMAND (R188). -/
  | unknownCommand (p : Port) (code : Byte) (args : List Byte)
  /-- SAVE_SETTINGS (R195). -/
  | saveSettings (p : Port) (args : List Byte)
  /-- READ_PORTS (R196). -/
  | readPorts (p : Port) (args : List Byte)
  /-- LOCK_GROUP (R192). -/
  | lockGroup (p : Port) (args : List Byte)
  /-- UNLOCK_GROUP (R193). -/
  | unlockGroup (p : Port) (args : List Byte)
  /-- LINE_RESET (R197). -/
  | lineReset
  /-- RESET_N_RISE (R197). -/
  | resetNRise
  /-- CLEAR_NOTICES (R203). -/
  | clearNotices (p : Port) (args : List Byte)
  /-- HOLDOFF_EXPIRY (R204). -/
  | holdoffExpiry (p : Port)
  /-- SET_NOTICES (R205). -/
  | setNotices (p : Port) (args : List Byte)
  /-- READ_NOTICES (R206). -/
  | readNotices (p : Port) (args : List Byte)
  /-- START_EDGE (R47). -/
  | startEdge
  /-- TIME_LINE_RISE (R47). -/
  | timeLineRise
  /-- SELECT_FALL (R182). -/
  | selectFall (p : Port)
deriving DecidableEq, Repr

end Sys2Proof
end

