-- ==== Sys2Proof/Decode.lean ====
section
/-! DEFINITION. The command that a word spells. No row of spec/opcode_table.json has bits, so that no word spells a command; the
frames of the ports are decoded in Machine/Operands.lean. -/

namespace Sys2Proof

/-- The command spelt by the `nbits` bits of `w`: none, since the table gives no row any bits. -/
def decodeTableWord (_nbits _w : Nat) : Option Instr := none

end Sys2Proof
end

