-- ==== Sys2Proof/Config.lean ====
section
/-! DEFINITION. The constants the manual fixes, in tbc (100 ns) where they are times, and the free values of the model:
opaque constants with no body, so that nothing can be proved of them. -/

namespace Sys2Proof.Config

/-- Ticks in one second (R1, R2). -/
def second : Nat := 10000000

/-- Ticks in one elapsed tenth (R2). -/
def tenth : Nat := 1000000

/-- Ticks in one millisecond. -/
def milli : Nat := 10000

/-- Ticks in one microsecond. -/
def micro : Nat := 10

/-- Ticks in a tenth of a millisecond, the step of Tq (R64). -/
def tenthMilli : Nat := 1000

/-- Seconds in a station day (R1). -/
def day : Nat := 86400

/-- The elapsed base wraps after 2^32 seconds (R2). -/
def elapsedPeriod : Nat := 42949672960000000

/-- The range of the trim accumulator (R3). -/
def accRange : Int := 1000000000

/-- The mark silence timer and the presence timers run 3 elapsed seconds (R16, R38). -/
def silence : Nat := 30000000

/-- A change of level that returns sooner than 50 µs is a glitch (R30). -/
def glitch : Nat := 500

/-- A level of the fibre pattern must last 200 µs (R30). -/
def patternLevel : Nat := 2000

/-- A pattern must be complete 2 ms after its start (R30, R31). -/
def patternLimit : Nat := 20000

/-- One bit period of the time line is 100 µs (R45). -/
def bitPeriod : Nat := 1000

/-- A telegram lasts 57 bit periods (R46). -/
def telegramLength : Nat := 57000

/-- The line-free count stops at 12 (R45). -/
def lineFree : Nat := 12

/-- LINE_DISAGREE is posted at most once in 60 elapsed seconds (R58). -/
def disagreeSpacing : Nat := 600000000

/-- The first-out window is 30 elapsed ms (R96). -/
def firstOutWindow : Nat := 300000

/-- The ring of the Trip Log holds at most 1,024 entries (R84). -/
def ringSize : Nat := 1024

/-- The Burst Table has 32 places (section 5, table). -/
def burstPlaces : Nat := 32

/-- A program ends no more than 10 ms after its start (R138). -/
def programLimit : Nat := 100000

/-- The restore timer runs 100 elapsed ms (R144). -/
def restore : Nat := 1000000

/-- The hourly timer runs 3,600 elapsed seconds (R142). -/
def hour : Nat := 36000000000

/-- The reported uncertainty saturates here (R9). -/
def uTop : Nat := 65535

/-- FREE VALUE (log entry 8): whether a day difference of exactly half the 65,536-day cycle counts as forward. The
manual takes the value of least magnitude (R22, R95, R158), and two values have it. -/
opaque halfCycleForward : BitVec 16 → BitVec 16 → Bool

/-- FREE VALUE (log entry 9): whether the first of two epochs 128 apart is the earlier (R95 names 1..127 and 129..255
only). -/
opaque epochTieEarlier : BitVec 8 → BitVec 8 → Bool

/-- FREE VALUE (log entry 10): the outcome of the verify of a program that runs its full 10 ms (R138 to R140). -/
opaque verifyOutcome : Nat → Bool

/-- FREE VALUE (log entry 4): whether the backup cell is lost when a cold start is made. -/
opaque cellLost : Nat → Bool

/-- FREE VALUE (log entry 12): the validity that READ STORE shows for the copy that the program begun at a reading is
writing (R138: neither valid nor invalid). -/
opaque targetShown : Nat → Bool

end Sys2Proof.Config
end

