-- ==== Sys2Proof/Machine/State.lean ====
section
/-! DEFINITION. The state of the 614, block by block as section 0.1 of the manual divides it, and the state right after a
cold start with a blank store. All of it is plain data. -/

namespace Sys2Proof.Machine

/-! ### Things of every port and every kind -/

/-- One thing for each of ports A, B and C. -/
structure PerPort (α : Type) where
  a : α
  b : α
  c : α
deriving DecidableEq, Repr

def PerPort.get {α : Type} (x : PerPort α) : Port → α
  | .a => x.a
  | .b => x.b
  | .c => x.c

def PerPort.set {α : Type} (x : PerPort α) (p : Port) (v : α) : PerPort α :=
  match p with
  | .a => { x with a := v }
  | .b => { x with b := v }
  | .c => { x with c := v }

/-- An elapsed base reading in ticks (R2): the elapsed seconds times 10,000,000, plus the tick count. -/
abbrev Reading := Nat

/-- A unit 0..7, or STATION, 8 (R64). -/
abbrev UnitSel := Fin 9

/-! ### Station time -/

/-- Station time (section 1.1). -/
structure StationTime where
  day : BitVec 16
  second : Nat
  fraction : Nat
deriving DecidableEq, Repr

/-- A stamp: the fraction is carried in microseconds (section 1.1). -/
structure Stamp where
  day : BitVec 16
  second : Nat
  micros : Nat
deriving DecidableEq, Repr

inductive Grade
  | a
  | b
  | c
  | d
  | e
deriving DecidableEq, Repr

/-- A stamp with the epoch, grade and uncertainty that accompany it (section 0.3, Stamp). -/
structure FullStamp where
  stamp : Stamp
  epoch : BitVec 8
  grade : Grade
  u : Nat
deriving DecidableEq, Repr

/-! ### Time Base (chapter 1) -/

inductive ClockState
  | unset
  | free
  | acquiring
  | holdover
  | tracking
  | locked
deriving DecidableEq, Repr

/-- The discipline stage kept in UNSET (R18). -/
inductive Stage
  | free
  | acquiring
  | tracking
deriving DecidableEq, Repr

/-- The source of marks (section 0.3, Source). -/
inductive Source
  | noSource
  | fibre
  | line
deriving DecidableEq, Repr

/-- The previous-mark record (R5, R6). -/
structure PrevMark where
  p : Int
  s : Int
  source : Source
  trimUsable : Bool
deriving DecidableEq, Repr

/-- The step candidate (R5, R11). -/
structure Candidate where
  p : Int
  agree : Nat
deriving DecidableEq, Repr

/-- The setters of the pending-date slot (R20). -/
structure Setters where
  a : Bool
  b : Bool
  c : Bool
  line : Bool
deriving DecidableEq, Repr

/-- A date in the pending-date slot (R20). -/
structure PendingDate where
  day : BitVec 16
  second : Nat
  setters : Setters
deriving DecidableEq, Repr

/-- A timer or pulse that began at a reading and runs for a length fixed when it began, in ticks. -/
structure Interval where
  start : Reading
  length : Nat
deriving DecidableEq, Repr

/-- The Time Base (chapter 1). -/
structure TimeBase where
  time : StationTime
  elapsedSeconds : BitVec 32
  elapsedTicks : Nat
  acc : Int
  trim : Int
  slew : Int
  state : ClockState
  stage : Stage
  u : Nat
  epoch : BitVec 8
  prevMark : Option PrevMark
  window : List Nat
  acqCount : Nat
  lockCount : Nat
  candidate : Option Candidate
  silence : Option Reading
  growth : Option Interval
  slot : Option PendingDate
  secOut : Option Interval
  boundaries : Nat
  tenths : Nat
deriving DecidableEq, Repr

/-! ### Mark Qualifier (chapter 2) -/

inductive Recogniser
  | waitLow
  | waitRise
  | firstHigh
  | low
  | secondHigh
  | suspended
deriving DecidableEq, Repr

/-- The pattern start (R30); `stepped` says that a step was taken at a mark since (R34). -/
structure Pattern where
  start : Reading
  fraction : Nat
  stepped : Bool
deriving DecidableEq, Repr

/-- The last well-graded peer (R37). -/
structure WellGraded where
  id : BitVec 3
  grade : Grade
deriving DecidableEq, Repr

structure MarkTotals where
  fibreAccepted : Nat
  fibreStrays : Nat
  malformed : Nat
  lineAccepted : Nat
  lineStrays : Nat
deriving DecidableEq, Repr

/-- A change of level on FIBRE_MARK that has not yet stood for 50 µs: the moment and the fraction of the change (R30). -/
structure FibreEdge where
  reading : Reading
  fraction : Nat
  stepped : Bool
deriving DecidableEq, Repr

/-- The Mark Qualifier (chapter 2). `edge` and `lastStep` are the model's own: the change that may still be a glitch (R30), and
the reading of the last step at a mark, by which R34 discards a mark whose instant lies before it. -/
structure MarkQualifier where
  recogniser : Recogniser
  edge : Option FibreEdge
  lastStep : Option Reading
  pattern : Option Pattern
  phaseStart : Reading
  fibreRef : Option Reading
  lineRef : Option Reading
  streak : List Reading
  faultCounter : Nat
  faulted : Bool
  fibrePresence : Option Reading
  peerPresence : Option Reading
  wellGraded : Option WellGraded
  selected : Source
  firstAfterChange : Bool
  totals : MarkTotals
deriving DecidableEq, Repr

/-! ### Time Line Controller (chapter 3) -/

inductive Role
  | primary
  | standby
  | listen
deriving DecidableEq, Repr

inductive Phase
  | waiting
  | sending
deriving DecidableEq, Repr

inductive SendState
  | idle
  | sending
deriving DecidableEq, Repr

inductive Receiver
  | awaitHigh
  | idle
  | start
  | data
  | own
deriving DecidableEq, Repr

/-- The start capture (R47); `stepped` says that a step was taken at a mark since (R34). -/
structure StartCapture where
  reading : Reading
  time : StationTime
  epoch : BitVec 8
  grade : Grade
  contested : Bool
  stepped : Bool
deriving DecidableEq, Repr

/-- The last valid telegram (R49). -/
structure ValidTelegram where
  id : BitVec 3
  grade : Grade
  epochBits : BitVec 2
  day : BitVec 16
  second : Nat
  reading : Reading
  contested : Bool
deriving DecidableEq, Repr

/-- The nine line counts (chapter 3, table). -/
structure LineCounts where
  sent : Nat
  busySkips : Nat
  arbitrationLosses : Nat
  idClashes : Nat
  sendFaults : Nat
  valid : Nat
  broken : Nat
  disagreements : Nat
  takeovers : Nat
deriving DecidableEq, Repr

structure TimeLine where
  phase : Phase
  freeCount : Nat
  highSince : Option Reading
  sendState : SendState
  receiver : Receiver
  capture : Option StartCapture
  outgoing : Option (BitVec 56)
  readBits : List Bool
  lastValid : Option ValidTelegram
  lastOther : Option Reading
  silence : Reading
  lastDisagree : Option Reading
  counts : LineCounts
deriving DecidableEq, Repr

/-! ### Trip Input Unit (chapter 4) -/

inductive InputState
  | idle
  | qualifying
  | active
  | releasing
  | blocked
  | disabled
deriving DecidableEq, Repr

/-- A capture (R66); Tq is in tenths of a millisecond. -/
structure Capture where
  stamp : FullStamp
  reading : Reading
  tq : Nat
deriving DecidableEq, Repr

structure TripInput where
  state : InputState
  capture : Option Capture
  score : Nat
  lastAssert : Option Reading
deriving DecidableEq, Repr

/-! ### Trip Log and Burst Table (chapter 5) -/

/-- The source of a TIME_STEP entry (R83). -/
inductive StepSource
  | fibre
  | line
  | date
deriving DecidableEq, Repr

/-- A step size: whole seconds and microseconds of one sign (R83). -/
structure StepSize where
  seconds : Int
  micros : Int
deriving DecidableEq, Repr

/-- The kind fields of a log entry (R83). -/
inductive EntryBody
  | tripAssert (input : Fin 16) (unit : UnitSel) (code : BitVec 6) (burst : BitVec 16) (resumed : Bool)
  | tripRelease (input : Fin 16) (unit : UnitSel) (code : BitVec 6)
  | chatterBlock (input : Fin 16) (unit : UnitSel)
  | timeStep (size : Option StepSize) (first : Bool) (source : StepSource)
  | supplyGap (gapStart : Stamp) (gapEnd : Stamp) (incomplete : Bool)
deriving DecidableEq, Repr

structure LogEntry where
  seq : BitVec 16
  stamp : FullStamp
  shift : BitVec 16
  body : EntryBody
deriving DecidableEq, Repr

/-- The ring is oldest first (R84). -/
structure TripLog where
  ring : List LogEntry
  nextSeq : BitVec 16
  cursors : PerPort (BitVec 16)
  missed : PerPort Nat
deriving DecidableEq, Repr

/-- The actions of a filter or a record (R98, R99). -/
structure Actions where
  faultTrip : Bool
  holdHandover : Bool
  notifyAll : Bool
deriving DecidableEq, Repr

inductive BurstState
  | forming
  | opened
  | closed
deriving DecidableEq, Repr

/-- The member judged earliest (R91, R95). -/
structure FirstOut where
  input : Fin 16
  stamp : Stamp
  epoch : BitVec 8
  seq : BitVec 16
deriving DecidableEq, Repr

/-- A burst record (R91). UNACKNOWLEDGED is an absent acknowledging port. -/
structure BurstRecord where
  number : BitVec 16
  state : BurstState
  ack : Option Port
  shift : BitVec 16
  opening : Reading
  lastJoin : Reading
  firstOut : FirstOut
  asserts : Nat
  units : BitVec 9
  actions : Actions
  counted : BitVec 8
  lostEntries : Bool
  overflowJoined : Bool
deriving DecidableEq, Repr

/-- The held records are in age order, oldest first (R91). -/
structure BurstTable where
  records : List BurstRecord
  openRef : Option (BitVec 16)
  nextNumber : BitVec 16
  holdCount : Nat
deriving DecidableEq, Repr

/-! ### Units (chapter 6) -/

inductive Mode
  | standstill
  | starting
  | generating
  | pumping
  | condensing
  | stopping
  | invalid
deriving DecidableEq, Repr

/-- Seconds and a tenths residue (R119). -/
structure Tally where
  seconds : Nat
  tenths : Nat
deriving DecidableEq, Repr

structure ModeTallies where
  standstill : Tally
  starting : Tally
  generating : Tally
  pumping : Tally
  condensing : Tally
  stopping : Tally
  invalid : Tally
deriving DecidableEq, Repr

/-- The four counts (chapter 6, table). -/
structure Counts where
  genStarts : Nat
  pumpStarts : Nat
  aborted : Nat
  faults : Nat
deriving DecidableEq, Repr

/-- The shift running deltas of one unit (R123). -/
structure Deltas where
  generating : Tally
  pumping : Tally
  condensing : Tally
  counts : Counts
deriving DecidableEq, Repr

/-- One machine unit; an absent mode is ABSENT. -/
structure MachineUnit where
  raw : Option Mode
  candidate : Option Mode
  settleStart : Reading
  mode : Option Mode
  modeEntry : Option Reading
  tallies : ModeTallies
  counts : Counts
  serviceDue : Bool
  deltas : Deltas
deriving DecidableEq, Repr

/-! ### Settings (chapter 9, R190) -/

structure TimeSettings where
  kp : Nat
  kf : Nat
  stepLimit : Nat
  lockLimit : Nat
  stepsAllowed : Bool
  growthPeriod : Nat
  pulseWidth : Nat
  markWindow : Nat
deriving DecidableEq, Repr

structure LineSettings where
  role : Role
  ownId : BitVec 3
  takeover : Nat
  crossLimit : Nat
  lineMarks : Bool
  delay : Nat
deriving DecidableEq, Repr

/-- The six settings of an input (R64); Tq is in tenths of a millisecond. -/
structure InputSetting where
  enabled : Bool
  activeLow : Bool
  unit : UnitSel
  code : BitVec 6
  tq : Nat
  logReleases : Bool
deriving DecidableEq, Repr

/-- A trip filter (R98). -/
structure Filter where
  code : BitVec 6
  mask : BitVec 6
  units : BitVec 9
  actions : Actions
deriving DecidableEq, Repr

/-- The chatter interval is in tenths of a second, Tg in milliseconds. -/
structure InputsSettings where
  inputs : Bank InputSetting 16
  chatter : Nat
  filters : Bank Filter 4
  burstGap : Nat
deriving DecidableEq, Repr

/-- Ts is in tenths of a second, I in seconds. -/
structure TallySettings where
  modeTable : Bank Mode 16
  fitted : BitVec 8
  settle : Nat
  limits : Bank Nat 8
  commitInterval : Nat
deriving DecidableEq, Repr

/-- A boundary of the schedule; an absent crew is ANY (R156). -/
structure Boundary where
  second : Nat
  crew : Option (BitVec 4)
deriving DecidableEq, Repr

/-- Wh is in minutes, the bell width in tenths of a second. -/
structure ShiftSettings where
  schedule : List Boundary
  window : Nat
  bellWidth : Nat
deriving DecidableEq, Repr

/-- Kind n of R200 is bit n of the enable set; the holdoff time is in milliseconds. -/
structure NoticeSettings where
  enable : BitVec 21
  interest : BitVec 9
  holdoff : Nat
deriving DecidableEq, Repr

/-- The six settings groups (R190). -/
structure Settings where
  time : TimeSettings
  line : LineSettings
  inputs : InputsSettings
  tally : TallySettings
  shift : ShiftSettings
  notice : PerPort NoticeSettings
deriving DecidableEq, Repr

inductive Group
  | time
  | line
  | inputs
  | tally
  | shift
  | notice
deriving DecidableEq, Repr

/-- The holder of each group's lock (R192). -/
structure Locks where
  time : Option Port
  line : Option Port
  inputs : Option Port
  tally : Option Port
  shift : Option Port
  notice : Option Port
deriving DecidableEq, Repr

/-! ### Shift Controller (chapter 8) -/

/-- The trip summary of a shift (R162). -/
structure TripSummary where
  asserts : Nat
  bursts : Nat
  faults : Nat
deriving DecidableEq, Repr

/-- The current shift (R161). -/
structure CurrentShift where
  number : BitVec 16
  crew : BitVec 4
  start : FullStamp
  startReading : Reading
  interrupted : Bool
  worst : Grade
  summary : TripSummary
deriving DecidableEq, Repr

inductive ShiftState
  | onShift
  | handoverOpen
  | handoverOverdue
deriving DecidableEq, Repr

/-- What opened a handover (R163). -/
inductive OpenedBy
  | schedule (index : Nat) (second : Nat)
  | port (p : Port)
deriving DecidableEq, Repr

/-- An accepted crew with the accepting port (R163). -/
structure Acceptance where
  crew : BitVec 4
  port : Port
deriving DecidableEq, Repr

/-- The open handover (R163). -/
structure Handover where
  openedBy : OpenedBy
  expected : Option (BitVec 4)
  stamp : FullStamp
  reading : Reading
  released : Option Port
  accepted : Option Acceptance
  missed : Nat
deriving DecidableEq, Repr

/-- An entry of a shift record's unit list (R172). -/
structure UnitEntry where
  unit : Fin 8
  genSeconds : Nat
  pumpSeconds : Nat
  condSeconds : Nat
  counts : Counts
deriving DecidableEq, Repr

/-- A shift record (R171). -/
structure ShiftRecord where
  number : BitVec 16
  crewOut : BitVec 4
  crewIn : BitVec 4
  start : FullStamp
  opened : FullStamp
  completed : FullStamp
  duration : Nat
  length : Nat
  openedBy : OpenedBy
  releasedBy : Option Port
  acceptedBy : Port
  overdue : Bool
  forcedHold : Option Nat
  interrupted : Bool
  missed : Nat
  worst : Grade
  summary : TripSummary
  units : List UnitEntry
deriving DecidableEq, Repr

/-- The Shift Controller; the record list is newest first (R173), the markers follow the schedule's order (R156). -/
structure ShiftController where
  markers : List (Option (BitVec 16))
  state : ShiftState
  current : CurrentShift
  handover : Option Handover
  holdCount : Nat
  records : List ShiftRecord
  bell : Option Interval
deriving DecidableEq, Repr

/-! ### Tally Store and Supply Monitor (chapter 7) -/

/-- The content of the time record (R134). -/
structure TimeRecord where
  trim : Int
  epoch : BitVec 8
deriving DecidableEq, Repr

/-- The content of a unit tally record (R134). -/
structure UnitRecord where
  tallies : ModeTallies
  counts : Counts
deriving DecidableEq, Repr

/-- The content of the current-shift record (R134). -/
structure ShiftContent where
  number : BitVec 16
  crew : BitVec 4
  start : FullStamp
  deltas : Bank Deltas 8
  summary : TripSummary
  interrupted : Bool
  worst : Grade
deriving DecidableEq, Repr

/-- One copy of a two-copy record: `valid` says that its check agrees and that it is not marked invalid (R135). -/
structure Copy (α : Type) where
  content : α
  counter : BitVec 16
  valid : Bool
deriving DecidableEq, Repr

structure TwoCopy (α : Type) where
  one : Copy α
  two : Copy α
deriving DecidableEq, Repr

/-- A single-copy record (R135). -/
structure Single (α : Type) where
  content : α
  valid : Bool
deriving DecidableEq, Repr

inductive CopyNo
  | one
  | two
deriving DecidableEq, Repr

/-- A record that a request names (R137). -/
inductive RecordId
  | unit (u : Fin 8)
  | time
  | currentShift
  | shiftRecord
  | settings
deriving DecidableEq, Repr

structure Request where
  record : RecordId
  emergency : Bool
  retry : Bool
deriving DecidableEq, Repr

/-- The content a program took at its start (R138). A shift record request with an empty list has none. -/
inductive Content
  | unit (u : Fin 8) (r : UnitRecord)
  | time (r : TimeRecord)
  | currentShift (r : ShiftContent)
  | shiftRecord (r : Option ShiftRecord)
  | settings (r : Settings)
deriving DecidableEq, Repr

/-- The program in progress (R138). The copy and counter are those of a two-copy record. -/
structure Program where
  content : Content
  copy : CopyNo
  counter : BitVec 16
  emergency : Bool
  retry : Bool
  start : Reading
deriving DecidableEq, Repr

structure StoreCounts where
  verified : Nat
  failures : Nat
  dropped : Nat
  torn : Nat
deriving DecidableEq, Repr

/-- How a two-copy record was loaded (R151). -/
inductive LoadOutcome
  | fromCopy (c : CopyNo)
  | lost
deriving DecidableEq, Repr

structure LoadReport where
  settingsLoaded : Bool
  time : LoadOutcome
  units : Bank LoadOutcome 8
  currentShift : LoadOutcome
  slots : Nat
deriving DecidableEq, Repr

/-- The Tally Store. The copies are the non-volatile records themselves; their validity and counters are the copy
knowledge (R135). -/
structure TallyStore where
  timeRecord : TwoCopy TimeRecord
  unitRecords : Bank (TwoCopy UnitRecord) 8
  shiftContent : TwoCopy ShiftContent
  settingsRecord : Single Settings
  slots : Bank (Single (Option ShiftRecord)) 16
  lastUnits : Bank UnitRecord 8
  lastShift : ShiftContent
  queue : List Request
  program : Option Program
  interval : Option Interval
  hourly : Option Reading
  counts : StoreCounts
  load : LoadReport
deriving DecidableEq, Repr

inductive SupplyState
  | normal
  | warning
  | retain
deriving DecidableEq, Repr

/-- Station time at RETAIN entry, with epoch, grade and U (R147). -/
structure GapStart where
  time : StationTime
  epoch : BitVec 8
  grade : Grade
  u : Nat
deriving DecidableEq, Repr

/-- The Supply Monitor; `stopped` says that the part is without power and its working memory lost (R148). -/
structure SupplyMonitor where
  state : SupplyState
  restore : Option Reading
  gapStart : Option GapStart
  incomplete : Bool
  warnings : Nat
  stopped : Bool
  cellLost : Bool
deriving DecidableEq, Repr

/-! ### Notices (chapter 10) -/

/-- The 21 notice kinds, numbered in the order of R200. -/
inductive NoticeKind
  | coldStart
  | supplyReturn
  | lineReset
  | clockState
  | timeStep
  | dateConflict
  | sourceFault
  | lineClash
  | lineDisagree
  | burst
  | burstReopened
  | chatterBlock
  | logOverrun
  | modeInvalid
  | serviceDue
  | tallyLost
  | handoverOpen
  | handoverOverdue
  | handoverDone
  | storeFault
  | settingsDefaulted
deriving DecidableEq, Repr

/-- The Notice Controller's state for one port; bit n of the pending set is kind n. -/
structure Notices where
  pending : BitVec 21
  holdoff : Option Interval
  attention : Bool
deriving DecidableEq, Repr

/-! ### Pins -/

/-- The level of the station supply against the three thresholds (section 7.4). -/
inductive SupplyBand
  | belowLow
  | belowWarning
  | belowRestore
  | atRestore
deriving DecidableEq, Repr

/-- The field lines (section 0.2). Bit n of `tripIn` and `unitState` is line n, set when high. `timeLine` is the level at which the
other parties leave TIME_LINE: low when one of them pulls it down (R45). -/
structure Pins where
  fibre : Level
  timeLine : Level
  tripIn : BitVec 16
  unitState : BitVec 32
  resetN : Level
  supply : SupplyBand
deriving DecidableEq, Repr

/-! ### Answers (chapter 9) and what each carries -/

/-- The statuses (section 0.4, R212). -/
inductive Status
  | done
  | doneClamped
  | busy
  | notNow
  | locked
  | conflict
  | wrongCrew
  | notFound
  | badArgument
  | badLength
  | unknown
  | frameError
deriving DecidableEq, Repr

/-- READ CLOCK (R24). -/
structure ClockSample where
  stamp : Stamp
  epoch : BitVec 8
  state : ClockState
  grade : Grade
  u : Nat
  trim : Int
  slew : Int
  source : Source
  stage : Option Stage
  acqCount : Nat
  lockCount : Nat
  candidate : Option Candidate
  slot : Option PendingDate
  elapsedSeconds : BitVec 32
deriving DecidableEq, Repr

/-- READ SOURCE (R40). Elapsed times are in milliseconds. -/
structure SourceSample where
  selected : Source
  firstAfterChange : Bool
  faultCounter : Nat
  faulted : Bool
  recogniser : Recogniser
  fibreRef : Option Nat
  lineRef : Option Nat
  streak : Nat
  fibrePresence : Bool
  peerPresence : Bool
  wellGraded : Option WellGraded
  lineMarks : Bool
  delay : Nat
  window : Nat
  totals : MarkTotals
deriving DecidableEq, Repr

/-- The last valid telegram as READ LINE gives it, with the milliseconds since its start edge (R60). -/
structure TelegramSample where
  telegram : ValidTelegram
  age : Nat
deriving DecidableEq, Repr

/-- READ LINE (R60). -/
structure LineSample where
  role : Role
  phase : Phase
  ownId : BitVec 3
  takeover : Nat
  crossLimit : Nat
  sendState : SendState
  receiver : Receiver
  lineFree : Bool
  lastValid : Option TelegramSample
  lastOther : Option Nat
  silence : Nat
  lastDisagree : Option Nat
  counts : LineCounts
deriving DecidableEq, Repr

/-- READ INPUTS (R78). -/
structure LevelsSample where
  tripIn : BitVec 16
  unitState : BitVec 32
  stamp : FullStamp
deriving DecidableEq, Repr

/-- READ INPUT (R79). -/
structure InputSample where
  setting : InputSetting
  chatter : Nat
  state : InputState
  active : Bool
  score : Nat
  lastAssert : Option Nat
  capture : Option Capture
deriving DecidableEq, Repr

/-- READ LOG (R87). -/
structure LogRead where
  missed : Nat
  moreFollows : Bool
  entries : List LogEntry
deriving DecidableEq, Repr

/-- SEEK LOG (R88). -/
structure SeekResult where
  cursor : BitVec 16
  oldest : Option (BitVec 16)
  nextSeq : BitVec 16
deriving DecidableEq, Repr

/-- READ LOG STATE (R89). -/
structure LogState where
  held : Nat
  oldest : Option (BitVec 16)
  nextSeq : BitVec 16
  cursors : PerPort (BitVec 16)
  missed : PerPort Nat
deriving DecidableEq, Repr

/-- One line of LIST BURSTS (R105). -/
structure BurstLine where
  number : BitVec 16
  state : BurstState
  ack : Option Port
deriving DecidableEq, Repr

/-- LIST BURSTS, newest first (R105). -/
structure BurstList where
  holdCount : Nat
  freePlaces : Nat
  openRef : Option (BitVec 16)
  lines : List BurstLine
deriving DecidableEq, Repr

/-- READ BURST: the record, with the milliseconds since its two readings (R106). -/
structure BurstSample where
  record : BurstRecord
  sinceOpening : Nat
  sinceJoin : Nat
deriving DecidableEq, Repr

/-- READ FILTERS (R109). -/
structure FilterSample where
  filters : Bank Filter 4
  burstGap : Nat
deriving DecidableEq, Repr

/-- READ UNIT (R127). -/
structure UnitSample where
  fitted : Bool
  code : BitVec 4
  raw : Option Mode
  candidate : Option Mode
  settleTenths : Option Nat
  mode : Option Mode
  modeSeconds : Option Nat
  tallies : ModeTallies
  counts : Counts
  runningTotal : Nat
  limit : Nat
  serviceDue : Bool
  deltas : Deltas
deriving DecidableEq, Repr

/-- One unit of READ UNITS (R128). -/
structure UnitSummary where
  fitted : Bool
  code : BitVec 4
  mode : Option Mode
  candidate : Option Mode
  serviceDue : Bool
deriving DecidableEq, Repr

/-- READ MODE TABLE (R129). -/
structure TableSample where
  modeTable : Bank Mode 16
  fitted : BitVec 8
  settle : Nat
  limits : Bank Nat 8
deriving DecidableEq, Repr

/-- The program in progress as READ STORE gives it (R154); a single-copy record has neither copy number nor counter (log entry
34). -/
structure ProgramSample where
  record : RecordId
  copy : Option CopyNo
  counter : Option (BitVec 16)
  retry : Bool
  age : Nat
deriving DecidableEq, Repr

/-- The validity and counter of the two copies of a record (R154). -/
structure CopiesSample where
  validOne : Bool
  counterOne : BitVec 16
  validTwo : Bool
  counterTwo : BitVec 16
deriving DecidableEq, Repr

/-- READ STORE (R154). -/
structure StoreSample where
  supply : SupplyState
  warnings : Nat
  program : Option ProgramSample
  queue : List Request
  time : CopiesSample
  units : Bank CopiesSample 8
  currentShift : CopiesSample
  settingsValid : Bool
  slotsValid : Bank Bool 16
  counts : StoreCounts
  load : LoadReport
  commitInterval : Nat
  intervalLeft : Nat
  hourlyLeft : Nat
deriving DecidableEq, Repr

/-- One boundary as READ SHIFT gives it (R175). -/
structure BoundarySample where
  index : Nat
  second : Nat
  crew : Option (BitVec 4)
  marker : Option (BitVec 16)
deriving DecidableEq, Repr

/-- The open handover as READ SHIFT gives it, with elapsed seconds since opening and seconds left (R175). -/
structure HandoverSample where
  handover : Handover
  age : Nat
  left : Nat
deriving DecidableEq, Repr

/-- READ SHIFT (R175). -/
structure ShiftSample where
  state : ShiftState
  current : CurrentShift
  age : Nat
  handover : Option HandoverSample
  holdCount : Nat
  schedule : List BoundarySample
  window : Nat
  bellWidth : Nat
  bellHigh : Bool
  records : List (BitVec 16)
deriving DecidableEq, Repr

inductive PortState
  | idle
  | executing
  | answerReady
deriving DecidableEq, Repr

/-- One port as READ PORTS gives it (R196). -/
structure PortSample where
  state : PortState
  overrun : Bool
  bound : Bool
deriving DecidableEq, Repr

/-- READ PORTS (R196). -/
structure PortsSample where
  ports : PerPort PortSample
  locks : Locks
deriving DecidableEq, Repr

/-- CLEAR NOTICES: the pending set before and after (R203). -/
structure ClearResult where
  before : BitVec 21
  after : BitVec 21
deriving DecidableEq, Repr

/-- READ NOTICES (R206). -/
structure NoticesSample where
  pending : BitVec 21
  settings : NoticeSettings
  holdoffLeft : Option Nat
  attention : Bool
deriving DecidableEq, Repr

/-- The result of an answer, by its fields; `Result.bytes` gives its bytes (R187, chapter 11). -/
inductive Result
  | empty
  | clock (x : ClockSample)
  | source (x : SourceSample)
  | line (x : LineSample)
  | levels (x : LevelsSample)
  | input (x : InputSample)
  | log (x : LogRead)
  | seek (x : SeekResult)
  | logState (x : LogState)
  | bursts (x : BurstList)
  | burst (x : BurstSample)
  | filters (x : FilterSample)
  | unit (x : UnitSample)
  | units (x : Bank UnitSummary 8)
  | table (x : TableSample)
  | store (x : StoreSample)
  | shift (x : ShiftSample)
  | shiftRecord (x : ShiftRecord)
  | ports (x : PortsSample)
  | saved (written : Bool)
  | cleared (x : ClearResult)
  | notices (x : NoticesSample)
deriving DecidableEq, Repr

/-- An answer (R187). -/
structure Answer where
  status : Status
  overrun : Bool
  result : Result
deriving DecidableEq, Repr

/-- A transaction: whether its select fell while the port was running and it was not abandoned since (R182, R197), and whether
the code and the length byte of a FETCH were clocked in it, after which its rise of select has no further effect (R185). -/
structure Transaction where
  counts : Bool
  fetched : Bool := false
deriving DecidableEq, Repr

/-- What a port's SAVE SETTINGS waits for: the queued settings request, or the running settings program (R195). -/
inductive SaveBinding
  | queued
  | program
deriving DecidableEq, Repr

/-- A Port Controller (chapter 9). `answerBits` are the bits of the bytes that a FETCH sampled when its length byte was complete,
in the transaction whose select fell last; they are driven on data out from the first bit after that byte, and data out is low in
every other bit (R182, R185). -/
structure PortCtl where
  state : PortState
  answer : Option Answer
  overrun : Bool
  transaction : Option Transaction
  binding : Option SaveBinding
  answerBits : List Bool
deriving DecidableEq, Repr

/-! ### The whole part -/

/-- The state of the part, the waiting commands, and the number of free values drawn. -/
structure State where
  clk : TimeBase
  mq : MarkQualifier
  tl : TimeLine
  inputs : Bank TripInput 16
  log : TripLog
  bursts : BurstTable
  units : Bank MachineUnit 8
  store : TallyStore
  supply : SupplyMonitor
  shift : ShiftController
  ports : PerPort PortCtl
  settings : Settings
  locks : Locks
  notices : PerPort Notices
  pins : Pins
  pending : List Instr
  draws : Nat
deriving DecidableEq, Repr

/-- No event of the part stops it: every row has an effect in every state, be it none. The type has no constructor. -/
inductive Fault : Type
deriving DecidableEq, Repr

/-- What the model refuses. -/
inductive Refusal
  /-- Raised by an arm of exec whose row has no meaning yet; no arm raises it. Safe: the machine stops where the
  hardware goes on. -/
  | notModelled (mnemonic : String)
deriving DecidableEq, Repr

/-! ### Defaults and reset -/

def Tally.zero : Tally := ⟨0, 0⟩

def ModeTallies.zero : ModeTallies :=
  ⟨.zero, .zero, .zero, .zero, .zero, .zero, .zero⟩

def Counts.zero : Counts := ⟨0, 0, 0, 0⟩

def Deltas.zero : Deltas := ⟨.zero, .zero, .zero, .zero⟩

def TripSummary.zero : TripSummary := ⟨0, 0, 0⟩

/-- The defaults of R25 and R41. -/
def TimeSettings.default : TimeSettings :=
  { kp := 3, kf := 2, stepLimit := 100000, lockLimit := 100, stepsAllowed := true, growthPeriod := 10,
    pulseWidth := 100, markWindow := 5000 }

/-- The defaults of R42, R57 and R63. -/
def LineSettings.default : LineSettings :=
  { role := .standby, ownId := 7, takeover := 4, crossLimit := 500, lineMarks := true, delay := 0 }

/-- The defaults of R64. -/
def InputSetting.default : InputSetting :=
  { enabled := false, activeLow := false, unit := 8, code := 0, tq := 20, logReleases := false }

/-- The defaults of R98. -/
def Filter.default : Filter := { code := 0, mask := 0, units := 0, actions := ⟨false, false, false⟩ }

/-- The defaults of R64, R97 and R98. -/
def InputsSettings.default : InputsSettings :=
  { inputs := .fill 16 .default, chatter := 10, filters := .fill 4 .default, burstGap := 500 }

/-- The default mode table of R113. -/
def defaultModeTable : Bank Mode 16 :=
  ⟨[.standstill, .starting, .generating, .pumping, .condensing, .stopping, .invalid, .invalid, .invalid, .invalid,
    .invalid, .invalid, .invalid, .invalid, .invalid, .invalid], rfl⟩

/-- The defaults of R117, R125, R129 and R143. -/
def TallySettings.default : TallySettings :=
  { modeTable := defaultModeTable, fitted := 255, settle := 20, limits := .fill 8 0, commitInterval := 360 }

/-- The defaults of R177. -/
def ShiftSettings.default : ShiftSettings := { schedule := [], window := 30, bellWidth := 20 }

/-- The defaults of R205. -/
def NoticeSettings.default : NoticeSettings := { enable := BitVec.allOnes 21, interest := BitVec.allOnes 9, holdoff := 20 }

def Settings.default : Settings :=
  { time := .default, line := .default, inputs := .default, tally := .default, shift := .default,
    notice := ⟨.default, .default, .default⟩ }

/-- The stamp of a cold start: day 0, second 0, the epoch loaded, grade E, U 65,535 (R27, R161, R180). -/
def FullStamp.cold (epoch : BitVec 8) : FullStamp := { stamp := ⟨0, 0, 0⟩, epoch := epoch, grade := .e, u := 65535 }

/-- The current shift of a lost current-shift record, started at the cold start with the epoch then current (R151, R180). -/
def ShiftContent.fallback (epoch : BitVec 8) : ShiftContent :=
  { number := 0, crew := 0, start := .cold epoch, deltas := .fill 8 .zero, summary := .zero, interrupted := true, worst := .e }

/-- DESIGN CHOICE (log entry 3): a copy that was never written is invalid and holds write counter 0, which READ STORE shows; R135
gives such a copy no counter. -/
def Copy.blank {α : Type} (x : α) : Copy α := { content := x, counter := 0, valid := false }

def TwoCopy.blank {α : Type} (x : α) : TwoCopy α := ⟨.blank x, .blank x⟩

/-- The Time Base after a cold start that lost the time record (R27, R151). -/
def TimeBase.reset : TimeBase :=
  { time := ⟨0, 0, 0⟩, elapsedSeconds := 0, elapsedTicks := 0, acc := 0, trim := 0, slew := 0, state := .unset,
    stage := .free, u := 65535, epoch := 0, prevMark := none, window := [], acqCount := 0, lockCount := 0,
    candidate := none, silence := none, growth := none, slot := none, secOut := none, boundaries := 0, tenths := 0 }

/-- The Mark Qualifier after a cold start (R44). -/
def MarkQualifier.reset : MarkQualifier :=
  { recogniser := .waitLow, edge := none, lastStep := none, pattern := none, phaseStart := 0, fibreRef := none,
    lineRef := none, streak := [], faultCounter := 0, faulted := false, fibrePresence := none, peerPresence := none,
    wellGraded := none, selected := .noSource, firstAfterChange := false, totals := ⟨0, 0, 0, 0, 0⟩ }

/-- The Time Line Controller after a cold start, with the line high (R63). -/
def TimeLine.reset : TimeLine :=
  { phase := .waiting, freeCount := 0, highSince := some 0, sendState := .idle, receiver := .awaitHigh, capture := none,
    outgoing := none, readBits := [], lastValid := none, lastOther := none, silence := 0, lastDisagree := none,
    counts := ⟨0, 0, 0, 0, 0, 0, 0, 0, 0⟩ }

/-- A disabled input after a cold start (R82). -/
def TripInput.reset : TripInput := { state := .disabled, capture := none, score := 0, lastAssert := none }

/-- The Trip Log after a cold start (R90). -/
def TripLog.reset : TripLog := { ring := [], nextSeq := 0, cursors := ⟨0, 0, 0⟩, missed := ⟨0, 0, 0⟩ }

/-- The Burst Table after a cold start (R111). -/
def BurstTable.reset : BurstTable := { records := [], openRef := none, nextNumber := 0, holdCount := 0 }

/-- A fitted unit after a cold start that lost its record, with its lines low (R133). -/
def MachineUnit.reset : MachineUnit :=
  { raw := some .standstill, candidate := none, settleStart := 0, mode := some .standstill, modeEntry := some 0,
    tallies := .zero, counts := .zero, serviceDue := false, deltas := .zero }

/-- The load report of a blank store (R151, R152). -/
def LoadReport.blank : LoadReport :=
  { settingsLoaded := false, time := .lost, units := .fill 8 .lost, currentShift := .lost, slots := 0 }

/-- The Tally Store after a cold start with every copy blank (R151, R153). -/
def TallyStore.reset : TallyStore :=
  { timeRecord := .blank ⟨0, 0⟩, unitRecords := .fill 8 (.blank ⟨.zero, .zero⟩), shiftContent := .blank (.fallback 0),
    settingsRecord := ⟨.default, false⟩, slots := .fill 16 ⟨none, false⟩, lastUnits := .fill 8 ⟨.zero, .zero⟩,
    lastShift := .fallback 0, queue := [], program := none, interval := some ⟨0, 3600000000⟩, hourly := some 0,
    counts := ⟨0, 0, 0, 0⟩, load := .blank }

/-- The Supply Monitor after a cold start (R153). -/
def SupplyMonitor.reset : SupplyMonitor :=
  { state := .normal, restore := none, gapStart := none, incomplete := false, warnings := 0, stopped := false,
    cellLost := false }

/-- The Shift Controller after a cold start that lost the current-shift record (R180). -/
def ShiftController.reset : ShiftController :=
  { markers := [], state := .onShift,
    current := { number := 0, crew := 0, start := .cold 0, startReading := 0, interrupted := true, worst := .e,
                 summary := .zero },
    handover := none, holdCount := 0, records := [], bell := none }

/-- A port after a cold start (R199). -/
def PortCtl.reset : PortCtl :=
  { state := .idle, answer := none, overrun := false, transaction := none, binding := none, answerBits := [] }

def Locks.free : Locks := ⟨none, none, none, none, none, none⟩

/-- A port's notices after a cold start of a blank store: COLD_START, SETTINGS_DEFAULTED and TALLY_LOST (R210). -/
def Notices.reset : Notices := { pending := 0x108001, holdoff := none, attention := true }

/-- The pins of a powered part whose field lines are at rest (log entry 5). -/
def Pins.reset : Pins :=
  { fibre := .low, timeLine := .high, tripIn := 0, unitState := 0, resetN := .high, supply := .atRestore }

/-- The part right after a cold start with a blank store (R27, R44, R63, R82, R90, R111, R133, R153, R180, R199, R210). -/
def State.reset : State :=
  { clk := .reset, mq := .reset, tl := .reset, inputs := .fill 16 .reset, log := .reset, bursts := .reset,
    units := .fill 8 .reset, store := .reset, supply := .reset, shift := .reset,
    ports := ⟨.reset, .reset, .reset⟩, settings := .default, locks := .free,
    notices := ⟨.reset, .reset, .reset⟩, pins := .reset, pending := [], draws := 0 }

end Sys2Proof.Machine
end

