-- ==== Sys2Proof/Machine/Ops.lean ====
section
/-! DEFINITION. Shared operations: readings and durations on the elapsed base, station time arithmetic, stamps, grades, the
levels of the lines. -/

namespace Sys2Proof.Machine

/-! ### The elapsed base (R2) -/

/-- The present elapsed base reading (R2). -/
def now (s : State) : Reading := s.clk.elapsedSeconds.toNat * Config.second + s.clk.elapsedTicks

/-- The elapsed time from reading `r` to reading `t`, modulo the wrap (R2). -/
def elapsedBetween (r t : Reading) : Nat :=
  (t % Config.elapsedPeriod + (Config.elapsedPeriod - r % Config.elapsedPeriod)) % Config.elapsedPeriod

/-- The elapsed time since reading `r` (R2). -/
def since (s : State) (r : Reading) : Nat := elapsedBetween r (now s)

/-- Whether a timer that began at `start`, if it runs, has reached `length` ticks. -/
def reached (s : State) (start : Option Reading) (length : Nat) : Bool :=
  match start with
  | none => false
  | some r => decide (length ≤ since s r)

/-- Whether an interval, if it runs, has reached its own length. -/
def ended (s : State) (i : Option Interval) : Bool :=
  match i with
  | none => false
  | some x => decide (x.length ≤ since s x.start)

/-- An interval of `length` ticks from now. -/
def intervalFrom (s : State) (length : Nat) : Interval := { start := now s, length := length }

/-- The milliseconds since a reading, saturating at 65,535 (R40, R60, R106). -/
def millisSince (s : State) (r : Reading) : Nat := min top16 (since s r / Config.milli)

/-! ### Station time (R1, R12, R22) -/

/-- The instant `t` moved by one second, with the carry of R1. -/
def nextSecond (day : BitVec 16) (second : Nat) : BitVec 16 × Nat :=
  if second + 1 < Config.day then (day, second + 1) else (day + 1, 0)

/-- The second before, with the borrow of R12. -/
def priorSecond (day : BitVec 16) (second : Nat) : BitVec 16 × Nat :=
  if second = 0 then (day - 1, Config.day - 1) else (day, second - 1)

/-- Station time advanced by counted ticks, at most one second of them (R1). -/
def StationTime.advance (t : StationTime) (ticks : Nat) : StationTime :=
  if t.fraction + ticks < Config.second then { t with fraction := t.fraction + ticks }
  else
    { day := (nextSecond t.day t.second).1, second := (nextSecond t.day t.second).2,
      fraction := t.fraction + ticks - Config.second }

/-- Whether such an advance wraps the fraction (R1). -/
def StationTime.wraps (t : StationTime) (ticks : Nat) : Bool := decide (Config.second ≤ t.fraction + ticks)

/-- Station time taken back by ticks, at most one second of them (R12, R58). -/
def StationTime.retreat (t : StationTime) (ticks : Nat) : StationTime :=
  if ticks ≤ t.fraction then { t with fraction := t.fraction - ticks }
  else
    { day := (priorSecond t.day t.second).1, second := (priorSecond t.day t.second).2,
      fraction := t.fraction + Config.second - ticks }

/-- The difference of two station days, as the signed value of least magnitude in the 65,536-day cycle (R22, R95, R158);
which of the two values holds at exactly half the cycle is a free value (log entry 8). -/
def dayDifference (later earlier : BitVec 16) : Int :=
  let d := (later - earlier).toNat
  if d < 32768 then d
  else if d = 32768 ∧ Config.halfCycleForward later earlier = true then 32768
  else (d : Int) - 65536

/-- The signed difference of two station times in ticks (R158). -/
def tickDifference (later earlier : StationTime) : Int :=
  (dayDifference later.day earlier.day * Config.day + ((later.second : Int) - earlier.second)) * Config.second
    + ((later.fraction : Int) - earlier.fraction)

/-- The signed difference of two stamps in microseconds (R95). -/
def stampDifference (later earlier : Stamp) : Int :=
  (dayDifference later.day earlier.day * Config.day + ((later.second : Int) - earlier.second)) * 1000000
    + ((later.micros : Int) - earlier.micros)

/-- A day `d` is later than a day `m` when d - m, modulo 65,536, lies in 1..32,767 (R156). -/
def dayLater (d m : BitVec 16) : Bool := decide (1 ≤ (d - m).toNat ∧ (d - m).toNat ≤ 32767)

/-! ### Grades, uncertainty and stamps -/

/-- The grade of each clock state (R14). -/
def ClockState.grade : ClockState → Grade
  | .unset => .e
  | .free => .d
  | .acquiring => .c
  | .holdover => .c
  | .tracking => .b
  | .locked => .a

/-- The rank of a grade; A is best (section 0.3, Grade). It is also its code (R211). -/
def Grade.rank : Grade → Nat
  | .a => 1
  | .b => 2
  | .c => 3
  | .d => 4
  | .e => 5

/-- The poorer of two grades (R161). -/
def Grade.poorer (x y : Grade) : Grade := if x.rank < y.rank then y else x

/-- The grade now (R14). -/
def gradeNow (s : State) : Grade := s.clk.state.grade

/-- The reported uncertainty (R9, R14): 65,535 in FREE and UNSET. -/
def reportedU (s : State) : Nat :=
  match s.clk.state with
  | .unset => Config.uTop
  | .free => Config.uTop
  | _ => s.clk.u

/-- Station time as a stamp: the fraction divided by 10, truncated (section 1.1). -/
def StationTime.stamp (t : StationTime) : Stamp := { day := t.day, second := t.second, micros := t.fraction / 10 }

/-- Station time now, with the epoch, grade and reported U current (section 0.3, Stamp). -/
def stampNow (s : State) : FullStamp :=
  { stamp := s.clk.time.stamp, epoch := s.clk.epoch, grade := gradeNow s, u := reportedU s }

/-! ### Levels -/

/-- Line `i` of the trip inputs stands high. -/
def tripHigh (s : State) (i : Fin 16) : Bool := s.pins.tripIn.getLsbD i.val

/-- An input is active while TRIP_IN stands at its active level (R65). -/
def activeUnder (setting : InputSetting) (high : Bool) : Bool := if setting.activeLow then !high else high

/-- Input `i` is active now (R65). -/
def inputActive (s : State) (i : Fin 16) : Bool := activeUnder (s.settings.inputs.inputs.get i) (tripHigh s i)

/-- Writes bit `i` of a bit vector. -/
def setBit {w : Nat} (x : BitVec w) (i : Nat) (b : Bool) : BitVec w :=
  if b then x ||| BitVec.ofNat w (2 ^ i) else x &&& ~~~ BitVec.ofNat w (2 ^ i)

/-- The trip line moved to the active or inactive level of its input. -/
def moveTripLine (s : State) (i : Fin 16) (active : Bool) : State :=
  let high := activeUnder (s.settings.inputs.inputs.get i) active
  { s with pins := { s.pins with tripIn := setBit s.pins.tripIn i.val high } }

/-- The code of unit `u`: line 4u + k contributes 2^k when high (R112). -/
def unitCode (s : State) (u : Fin 8) : BitVec 4 := s.pins.unitState.extractLsb' (4 * u.val) 4

/-- The four state lines of a unit moved to a code (R112). -/
def withUnitCode (x : BitVec 32) (u : Fin 8) (code : BitVec 4) : BitVec 32 :=
  (x &&& ~~~ ((15 : BitVec 32) <<< (4 * u.val))) ||| (code.zeroExtend 32 <<< (4 * u.val))

/-- A unit is fitted by its bit of the fitted set (R117). -/
def isFitted (s : State) (u : Fin 8) : Bool := s.settings.tally.fitted.getLsbD u.val

/-! ### Conditions of the whole part -/

/-- The part is powered and not in RETAIN. -/
def working (s : State) : Bool := !s.supply.stopped && decide (s.supply.state ≠ .retain)

/-- The ports run: outside RETAIN, while RESET_N is high, in a part that has loaded its store (R182). -/
def portsRunning (s : State) : Bool := working s && decide (s.pins.resetN = .high)

/-! ### Updating one of several -/

def State.withInput (s : State) (i : Fin 16) (x : TripInput) : State := { s with inputs := s.inputs.set i x }

def State.withUnit (s : State) (u : Fin 8) (x : MachineUnit) : State := { s with units := s.units.set u x }

def State.withPort (s : State) (p : Port) (x : PortCtl) : State := { s with ports := s.ports.set p x }

def State.withNotices (s : State) (p : Port) (x : Notices) : State := { s with notices := s.notices.set p x }

end Sys2Proof.Machine
end

