-- ==== Sys2Proof/Machine/Flags.lean ====
section
/-! DEFINITION. The pending sets and the attention lines: posting, clearing, the start kinds (chapter 10). -/

namespace Sys2Proof.Machine

/-- The number of a kind, in the order of R200's table. -/
def NoticeKind.number : NoticeKind → Nat
  | .coldStart => 0
  | .supplyReturn => 1
  | .lineReset => 2
  | .clockState => 3
  | .timeStep => 4
  | .dateConflict => 5
  | .sourceFault => 6
  | .lineClash => 7
  | .lineDisagree => 8
  | .burst => 9
  | .burstReopened => 10
  | .chatterBlock => 11
  | .logOverrun => 12
  | .modeInvalid => 13
  | .serviceDue => 14
  | .tallyLost => 15
  | .handoverOpen => 16
  | .handoverOverdue => 17
  | .handoverDone => 18
  | .storeFault => 19
  | .settingsDefaulted => 20

/-- The set that holds one kind. -/
def NoticeKind.bit (k : NoticeKind) : BitVec 21 := BitVec.ofNat 21 (2 ^ k.number)

/-- A set of kinds holds a kind. -/
def hasKind (x : BitVec 21) (k : NoticeKind) : Bool := x.getLsbD k.number

/-- The three start kinds, always enabled (R200). -/
def startKinds : BitVec 21 := 7

/-- The attention line follows its three conditions outside RETAIN: asserted exactly when no holdoff runs and a kind is
pending (R202). -/
def Notices.refresh (n : Notices) : Notices :=
  { n with attention := n.holdoff.isNone && decide (n.pending ≠ 0) }

/-- One posting taken for one port: discarded in RETAIN and when the kind is not enabled (R201). -/
def postTo (k : NoticeKind) (p : Port) (s : State) : State :=
  if working s = false then s
  else if hasKind (s.settings.notice.get p).enable k = false then s
  else s.withNotices p { s.notices.get p with pending := (s.notices.get p).pending ||| k.bit }.refresh

/-- A posting offered to the ports that `offered` names (R201). -/
def postWhere (offered : Port → Bool) (k : NoticeKind) (s : State) : State :=
  let one := fun (t : State) (p : Port) => if offered p then postTo k p t else t
  one (one (one s .a) .b) .c

/-- A posting offered to every port (R200). -/
def post (k : NoticeKind) (s : State) : State := postWhere (fun _ => true) k s

/-- Every port's pending set becomes one start kind, with no holdoff and the line asserted (R208 to R210). -/
def startNotices (k : NoticeKind) (s : State) : State :=
  let n : Notices := { pending := k.bit, holdoff := none, attention := true }
  { s with notices := ⟨n, n, n⟩ }

/-- RETAIN entry: pending sets emptied, holdoffs stopped, lines released (R207). -/
def retainNotices (s : State) : State :=
  let n : Notices := { pending := 0, holdoff := none, attention := false }
  { s with notices := ⟨n, n, n⟩ }

end Sys2Proof.Machine
end

