-- ==== Sys2Proof/Machine/Operands.lean ====
section
/-! DEFINITION. The operands of a frame and the transaction around every command: argument bytes, forms of a frame, the order
in which a command is judged, locks, answers (chapter 9, R211). -/

namespace Sys2Proof.Machine

/-! ### Argument bytes (R211) -/

/-- A list of bytes as one number, most significant byte first (R211). -/
def numberOf (bytes : List Byte) : Nat := bytes.foldl (fun n b => n * 256 + b.toNat) 0

/-- The number that the `width` argument bytes from `offset` hold (R211). -/
def argNumber (args : List Byte) (offset width : Nat) : Nat := numberOf ((args.drop offset).take width)

/-- A number from bits, most significant first (R211). -/
def numberOfBits (bits : List Bool) : Nat := bits.foldl (fun n b => 2 * n + b.toNat) 0

/-- A number as bits on a wire, most significant first (R211). -/
def bitsOf (width n : Nat) : List Bool := (List.range width).map fun k => n.testBit (width - 1 - k)

/-- Bytes as the bits of their clock edges, each byte most significant bit first (R182). -/
def wireBits (bytes : List Byte) : List Bool := bytes.flatMap fun b => bitsOf 8 b.toNat

/-- The bits that clock edges clocked in, out of bytes whose last may be filled up (R182). -/
def clockedBits (edges : Nat) (bytes : List Byte) : List Bool := (wireBits bytes).take edges

/-- The whole bytes that clocked bits make, eight edges a byte (R182). -/
def wireBytes (bits : List Bool) : List Byte :=
  (List.range (bits.length / 8)).map fun k => BitVec.ofNat 8 (numberOfBits ((bits.drop (8 * k)).take 8))

/-- A yes-or-no value, or a polarity: 0 or 1 (R211). -/
def yesNoOf (n : Nat) : Option Bool :=
  match n with
  | 0 => some false
  | 1 => some true
  | _ => none

/-- A port code as a target: 1 A, 2 B, 3 C (R205, R211). -/
def portOf (n : Nat) : Option Port :=
  match n with
  | 1 => some .a
  | 2 => some .b
  | 3 => some .c
  | _ => none

/-- A settings group by its code (R211). -/
def groupOf (n : Nat) : Option Group :=
  match n with
  | 0 => some .time
  | 1 => some .line
  | 2 => some .inputs
  | 3 => some .tally
  | 4 => some .shift
  | 5 => some .notice
  | _ => none

/-- A role by its code (R211). -/
def roleOf (n : Nat) : Option Role :=
  match n with
  | 0 => some .primary
  | 1 => some .standby
  | 2 => some .listen
  | _ => none

/-- One of the seven modes by its code; ABSENT, 7, is for answers only (R211). -/
def modeOf (n : Nat) : Option Mode :=
  match n with
  | 0 => some .standstill
  | 1 => some .starting
  | 2 => some .generating
  | 3 => some .pumping
  | 4 => some .condensing
  | 5 => some .stopping
  | 6 => some .invalid
  | _ => none

/-- The four counts of a unit (chapter 6, table). -/
inductive CountKind
  | genStarts
  | pumpStarts
  | aborted
  | faults
deriving DecidableEq, Repr

/-- What PRESET TALLY may write: a mode tally, or one of the four counts (R126). -/
inductive Selector
  | tally (m : Mode)
  | count (k : CountKind)
deriving DecidableEq, Repr

/-- A tally selector by its code (R211). -/
def selectorOf (n : Nat) : Option Selector :=
  match n with
  | 7 => some (.count .genStarts)
  | 8 => some (.count .pumpStarts)
  | 9 => some (.count .aborted)
  | 10 => some (.count .faults)
  | _ => (modeOf n).map .tally

/-- An index below `n`, or none (R189). -/
def indexOf (n k : Nat) : Option (Fin n) := if h : k < n then some ⟨k, h⟩ else none

/-- A crew code 0..15 (R189). -/
def crewOf (n : Nat) : Option (BitVec 4) := if n < 16 then some (BitVec.ofNat 4 n) else none

/-- An expected crew: a crew code, or 255 for ANY (R160, R211). -/
def expectedCrewOf (n : Nat) : Option (Option (BitVec 4)) := if n = 255 then some none else (crewOf n).map some

/-- A set of the three actions: bits 0 to 2 of a byte (R107, R211). -/
def actionsOf (n : Nat) : Option Actions :=
  if n < 8 then some { faultTrip := n.testBit 0, holdHandover := n.testBit 1, notifyAll := n.testBit 2 } else none

/-- A set sent as a mask, refused when it names a member that does not exist (R211). -/
def maskOf (w n : Nat) : Option (BitVec w) := if n < 2 ^ w then some (BitVec.ofNat w n) else none

/-- Whether clamping to `lo..hi` changed a value, so that the answer is DONE_CLAMPED (R189). -/
def outside (lo hi v : Nat) : Bool := decide (v < lo ∨ hi < v)

/-- DONE, or DONE_CLAMPED when a value was brought into range (R189). -/
def clampedStatus (clamped : Bool) : Status := if clamped then .doneClamped else .done

/-! ### Frames (R183, R188) -/

/-- The code of FETCH (section 11.9). -/
def fetchCode : Nat := 0x01

/-- The codes of the part's commands, FETCH apart (section 11.9). -/
def commandCodes : List Nat :=
  [0x10, 0x11, 0x12, 0x18, 0x19, 0x1A, 0x1B, 0x20, 0x21, 0x22, 0x28, 0x29, 0x2A, 0x2B, 0x2C, 0x30, 0x31, 0x32, 0x38, 0x39,
   0x3A, 0x3B, 0x3C, 0x3D, 0x40, 0x41, 0x42, 0x43, 0x44, 0x45, 0x46, 0x48, 0x49, 0x50, 0x51, 0x52, 0x53, 0x54, 0x55, 0x56,
   0x57, 0x58, 0x61, 0x62, 0x63, 0x64, 0x68, 0x69, 0x6A]

/-- The largest length byte of a frame (R183). -/
def longestFrame : Nat := 60

/-- The forms of a frame at the rise of select (R183). -/
inductive FrameForm
  | noFrame
  | broken
  | fetch
  | wellFormed
deriving DecidableEq, Repr

/-- The form of the frame whose transaction clocked in `bits`, one for each clock edge (R182, R183). A FETCH is no broken frame
once its length byte is complete, even when select rises in the middle of a byte (R185). -/
def frameForm (bits : List Bool) : FrameForm :=
  if bits = [] then .noFrame
  else
    match wireBytes bits with
    | [] => .broken
    | [_] => .broken
    | code :: len :: args =>
      if code.toNat = fetchCode ∧ len.toNat = 0 then .fetch
      else if bits.length % 8 ≠ 0 then .broken
      else if longestFrame < len.toNat then .broken
      else if args.length ≠ len.toNat then .broken
      else .wellFormed

/-! ### Locks (R192 to R194) -/

def Locks.holder (l : Locks) : Group → Option Port
  | .time => l.time
  | .line => l.line
  | .inputs => l.inputs
  | .tally => l.tally
  | .shift => l.shift
  | .notice => l.notice

def Locks.assign (l : Locks) (g : Group) (h : Option Port) : Locks :=
  match g with
  | .time => { l with time := h }
  | .line => { l with line := h }
  | .inputs => { l with inputs := h }
  | .tally => { l with tally := h }
  | .shift => { l with shift := h }
  | .notice => { l with notice := h }

/-- The six groups (R190). -/
def allGroups : List Group := [.time, .line, .inputs, .tally, .shift, .notice]

/-- A group is held by a port other than `p` (R194). -/
def heldByOther (s : State) (p : Port) (g : Group) : Bool :=
  match s.locks.holder g with
  | none => false
  | some q => decide (q ≠ p)

/-! ### Answers and transactions (R184 to R188) -/

/-- What a command taken gives: its effect on the blocks, its status and its result (R187). -/
structure Reply where
  state : State
  status : Status
  result : Result := .empty

/-- A command refused: nothing changes and the result is empty (R187, R188). -/
def refuse (status : Status) (s : State) : Reply := { state := s, status := status }

/-- Makes a port's answer: the overrun flag is read into it and cleared, and the port is ANSWER_READY (R184, R186). -/
def answerPort (p : Port) (status : Status) (result : Result) (s : State) : State :=
  s.withPort p
    { s.ports.get p with
      state := .answerReady
      answer := some { status := status, overrun := (s.ports.get p).overrun, result := result }
      overrun := false
      binding := none }

/-- The rise of select: the transaction is over (R182). -/
def endTransaction (p : Port) (s : State) : State := s.withPort p { s.ports.get p with transaction := none }

/-- The rise of select on a non-FETCH frame: ignored when its select fell while the port was not running, or the part is in
RETAIN (R182, R198), without further effect in a transaction that a FETCH took (R185), dropped in EXECUTING with the overrun flag
set (R184), and otherwise taken by `take`. With no transaction there is no frame. -/
def atRise (p : Port) (take : State → State) (s : State) : State :=
  match (s.ports.get p).transaction with
  | none => s
  | some t =>
    let s := endTransaction p s
    if t.counts = false ∨ t.fetched = true ∨ working s = false then s
    else if (s.ports.get p).state = .executing then s.withPort p { s.ports.get p with overrun := true }
    else take s

/-- The frame of a known command: more than 60 argument bytes make it a broken frame (R183); otherwise its length is judged,
and the command carried out and answered (R188). -/
def carryOut (p : Port) (args : List Byte) (lengthFits : Bool) (body : State → Reply) (s : State) : State :=
  atRise p
    (fun s =>
      if longestFrame < args.length then answerPort p .frameError .empty s
      else if lengthFits = false then answerPort p .badLength .empty s
      else answerPort p (body s).status (body s).result (body s).state)
    s

/-- The argument bytes are of the command's fixed length (section 11.9). -/
def fits (args : List Byte) (n : Nat) : Bool := decide (args.length = n)

/-- Step 4 of R188 for a command of group `g`. -/
def unlessLocked (p : Port) (g : Group) (body : State → Reply) (s : State) : Reply :=
  if heldByOther s p g then refuse .locked s else body s

end Sys2Proof.Machine
end

