-- ==== Sys2Proof/Machine/Store.lean ====
section
/-! DEFINITION. The Tally Store: copies, the commit queue, programs and their ends, the commit schedule (chapter 7). -/

namespace Sys2Proof.Machine

/-! ### Copies (R135, R136) -/

def TwoCopy.get {α : Type} (t : TwoCopy α) : CopyNo → Copy α
  | .one => t.one
  | .two => t.two

def TwoCopy.put {α : Type} (t : TwoCopy α) (c : CopyNo) (x : Copy α) : TwoCopy α :=
  match c with
  | .one => { t with one := x }
  | .two => { t with two := x }

/-- The copy other than `c`. -/
def CopyNo.other : CopyNo → CopyNo
  | .one => .two
  | .two => .one

/-- The later valid copy (R135): of two valid copies, copy 2 when its counter exceeds the other's by 1..32,767, else copy 1. -/
def TwoCopy.later {α : Type} (t : TwoCopy α) : Option CopyNo :=
  match t.one.valid, t.two.valid with
  | false, false => none
  | true, false => some .one
  | false, true => some .two
  | true, true =>
    if 1 ≤ (t.two.counter - t.one.counter).toNat ∧ (t.two.counter - t.one.counter).toNat ≤ 32767 then some .two
    else some .one

/-- The copy that a commit writes (R135). -/
def TwoCopy.target {α : Type} (t : TwoCopy α) : CopyNo :=
  match t.later with
  | none => .one
  | some c => c.other

/-- The counter that a commit writes (R135). -/
def TwoCopy.nextCounter {α : Type} (t : TwoCopy α) : BitVec 16 :=
  match t.later with
  | none => 1
  | some c => (t.get c).counter + 1

/-- A copy written and verified (R139). -/
def TwoCopy.write {α : Type} (t : TwoCopy α) (c : CopyNo) (content : α) (counter : BitVec 16) : TwoCopy α :=
  t.put c { content := content, counter := counter, valid := true }

/-- A copy marked invalid (R135, R140, R147). -/
def TwoCopy.spoil {α : Type} (t : TwoCopy α) (c : CopyNo) : TwoCopy α := t.put c { t.get c with valid := false }

/-- The slot of a shift record: shift number modulo 16 (R136). -/
def slotOf (number : BitVec 16) : Fin 16 := ⟨number.toNat % 16, Nat.mod_lt _ (by decide)⟩

/-! ### Contents (R134, R138) -/

/-- The working content of a unit tally record (R134). -/
def MachineUnit.record (u : MachineUnit) : UnitRecord := { tallies := u.tallies, counts := u.counts }

/-- The working content of the current-shift record (R134). -/
def shiftContentNow (s : State) : ShiftContent :=
  { number := s.shift.current.number, crew := s.shift.current.crew, start := s.shift.current.start,
    deltas := .ofFn fun u => (s.units.get u).deltas, summary := s.shift.current.summary,
    interrupted := s.shift.current.interrupted, worst := s.shift.current.worst }

/-- The content of a record as the working values stand (R138); the shift record is the newest of the list (R137). -/
def contentNow (s : State) : RecordId → Content
  | .unit u => .unit u (s.units.get u).record
  | .time => .time { trim := s.clk.trim, epoch := s.clk.epoch }
  | .currentShift => .currentShift (shiftContentNow s)
  | .shiftRecord => .shiftRecord s.shift.records.head?
  | .settings => .settings s.settings

def Content.record : Content → RecordId
  | .unit u _ => .unit u
  | .time _ => .time
  | .currentShift _ => .currentShift
  | .shiftRecord _ => .shiftRecord
  | .settings _ => .settings

/-- The two-copy records; a shift record slot and the settings record have one copy (R135). -/
def RecordId.twoCopies : RecordId → Bool
  | .unit _ => true
  | .time => true
  | .currentShift => true
  | .shiftRecord => false
  | .settings => false

/-- The copy and counter that a commit of a record writes now (R135). A single-copy record has neither; DESIGN CHOICE (log entry 34):
READ STORE shows none, and copy 1 and counter 0 stand here for its one copy. -/
def TallyStore.choose (t : TallyStore) : RecordId → CopyNo × BitVec 16
  | .unit u => ((t.unitRecords.get u).target, (t.unitRecords.get u).nextCounter)
  | .time => (t.timeRecord.target, t.timeRecord.nextCounter)
  | .currentShift => (t.shiftContent.target, t.shiftContent.nextCounter)
  | .shiftRecord => (.one, 0)
  | .settings => (.one, 0)

/-- Working values of unit `u` differ from its last committed content (R141). -/
def unitChanged (s : State) (u : Fin 8) : Bool := decide ((s.units.get u).record ≠ s.store.lastUnits.get u)

/-! ### Requests and program starts (R137, R138) -/

def TallyStore.isQueued (t : TallyStore) (r : RecordId) : Bool := t.queue.any fun q => decide (q.record = r)

/-- Moves every save binding of one kind to another (R195). -/
def rebind (old new : SaveBinding) (s : State) : State :=
  let move := fun (c : PortCtl) => if c.binding = some old then { c with binding := some new } else c
  { s with ports := ⟨move s.ports.a, move s.ports.b, move s.ports.c⟩ }

/-- The program of request `r` (R138). -/
def programFor (s : State) (r : Request) : Program :=
  { content := contentNow s r.record, copy := (s.store.choose r.record).1, counter := (s.store.choose r.record).2,
    emergency := r.emergency, retry := r.retry, start := now s }

/-- The head request leaves the queue and its program starts, when the part works, no program is in progress and the queue
is not empty (R138). The bindings of a queued settings request follow it (R195). -/
def startProgram (s : State) : State :=
  match working s, s.store.program, s.store.queue with
  | true, none, r :: rest =>
    let t : State := { s with store := { s.store with queue := rest, program := some (programFor s r) } }
    if r.record = .settings then rebind .queued .program t else t
  | _, _, _ => s

/-- A request handed to the Tally Store: discarded in RETAIN, merged with a queued one, or joined at the tail; a request
that joins an empty queue with no program running starts at once (R137, R138). -/
def request (r : RecordId) (s : State) : State :=
  if working s = false then s
  else if s.store.isQueued r then s
  else
    startProgram
      { s with store := { s.store with queue := s.store.queue ++ [{ record := r, emergency := false, retry := false }] } }

/-! ### Program ends (R139, R140, R195) -/

/-- What a verified program leaves in store, with the last committed content it gives (R139). -/
def TallyStore.commit (t : TallyStore) (p : Program) : TallyStore :=
  match p.content with
  | .unit u r =>
    { t with unitRecords := t.unitRecords.set u ((t.unitRecords.get u).write p.copy r p.counter),
             lastUnits := t.lastUnits.set u r }
  | .time r => { t with timeRecord := t.timeRecord.write p.copy r p.counter }
  | .currentShift r => { t with shiftContent := t.shiftContent.write p.copy r p.counter, lastShift := r }
  | .shiftRecord none => t
  | .shiftRecord (some r) => { t with slots := t.slots.set (slotOf r.number) { content := some r, valid := true } }
  | .settings r => { t with settingsRecord := { content := r, valid := true } }

/-- What a failed or torn program leaves in store: its target is invalid (R140, R147). -/
def TallyStore.spoil (t : TallyStore) (p : Program) : TallyStore :=
  match p.content with
  | .unit u _ => { t with unitRecords := t.unitRecords.set u ((t.unitRecords.get u).spoil p.copy) }
  | .time _ => { t with timeRecord := t.timeRecord.spoil p.copy }
  | .currentShift _ => { t with shiftContent := t.shiftContent.spoil p.copy }
  | .shiftRecord none => t
  | .shiftRecord (some r) =>
    { t with slots := t.slots.set (slotOf r.number) { t.slots.get (slotOf r.number) with valid := false } }
  | .settings _ => { t with settingsRecord := { t.settingsRecord with valid := false } }

/-- The outcome of the settings program, reported to every port bound to it (R195). -/
def reportSave (written : Bool) (s : State) : State :=
  let one := fun (t : State) (p : Port) =>
    if (t.ports.get p).binding = some .program then answerPort p .done (.saved written) t else t
  one (one (one s .a) .b) .c

/-- The end of a program whose verify agrees (R139). -/
def programVerified (p : Program) (s : State) : State :=
  let t := s.store.commit p
  let s : State :=
    { s with store := { t with program := none, counts := { t.counts with verified := satSucc top16 t.counts.verified } } }
  startProgram (if p.content.record = .settings then reportSave true s else s)

/-- The queue after a failed verify with the retry mark clear (R140). -/
def TallyStore.requeue (t : TallyStore) (p : Program) : TallyStore :=
  if t.isQueued p.content.record then t
  else { t with queue := t.queue ++ [{ record := p.content.record, emergency := p.emergency, retry := true }] }

/-- The end of a program whose verify disagrees (R140). -/
def programFailed (p : Program) (s : State) : State :=
  let t := s.store.spoil p
  let s : State :=
    { s with store := { t with program := none, counts := { t.counts with failures := satSucc top16 t.counts.failures } } }
  let s := post .storeFault s
  if p.retry then
    let s : State :=
      { s with store := { s.store with counts := { s.store.counts with dropped := satSucc top16 s.store.counts.dropped } } }
    startProgram (if p.content.record = .settings then reportSave false s else s)
  else
    let s : State := { s with store := s.store.requeue p }
    startProgram (if p.content.record = .settings then rebind .program .queued s else s)

/-- A program can end: one is in progress, and this is a moment after its start (R138). -/
def programCanEnd (s : State) : Bool :=
  match s.store.program with
  | none => false
  | some p => working s && decide (0 < since s p.start)

/-- A program has run its full 10 ms (R138). -/
def programMustEnd (s : State) : Bool :=
  match s.store.program with
  | none => false
  | some p => working s && decide (Config.programLimit ≤ since s p.start)

/-- PROGRAM_END with the outcome of the verify (R138 to R140). -/
def endProgram (verified : Bool) (s : State) : State :=
  match s.store.program with
  | none => s
  | some p =>
    if programCanEnd s = false then s
    else if verified then programVerified p s
    else programFailed p s

/-! ### The commit schedule (R141, R142) -/

/-- The eight units in order. -/
def allUnits : List (Fin 8) := List.finRange 8

/-- Each unit record that differs from its last committed content is requested, in unit order (R141, R149). -/
def requestChangedUnits (s : State) : State :=
  allUnits.foldl (fun t u => if unitChanged t u then request (.unit u) t else t) s

/-- The interval timer, started from 0 with the commit interval in force (R141, R143). -/
def startInterval (s : State) : State :=
  { s with store := { s.store with
      interval := some (intervalFrom s (s.settings.tally.commitInterval * Config.second)) } }

/-- The interval timer has run out (R141). -/
def intervalDue (s : State) : Bool := working s && ended s s.store.interval

/-- INTERVAL_TIMER_EXPIRY (R141). -/
def expireInterval (s : State) : State :=
  if intervalDue s = false then s
  else startInterval (request .currentShift (requestChangedUnits s))

/-- The hourly timer, started from 0 (R142). -/
def startHourly (s : State) : State := { s with store := { s.store with hourly := some (now s) } }

/-- The hourly timer has run out (R142). -/
def hourlyDue (s : State) : Bool := working s && reached s s.store.hourly Config.hour

/-- HOURLY_TIMER_EXPIRY (R142). -/
def expireHourly (s : State) : State := if hourlyDue s = false then s else startHourly (request .time s)

/-! ### Supply loss (R145 to R147) -/

/-- The request for a record in the emergency order: a request carried from the old queue keeps its retry mark (R145). -/
def TallyStore.emergencyRequest (t : TallyStore) (r : RecordId) : Request :=
  { record := r, emergency := true, retry := t.queue.any fun q => decide (q.record = r) && q.retry }

/-- The commit queue in emergency order (R145). -/
def emergencyQueue (s : State) : List Request :=
  let units := (allUnits.filter fun u => s.store.isQueued (.unit u) || unitChanged s u).map
    fun u => s.store.emergencyRequest (.unit u)
  units ++ [s.store.emergencyRequest .currentShift, s.store.emergencyRequest .time]
    ++ s.store.queue.filter fun q => decide (q.record = .shiftRecord ∨ q.record = .settings)

/-- Every emergency mark cleared, that of the program in progress among them (R146). -/
def clearEmergency (s : State) : State :=
  { s with store := { s.store with
      queue := s.store.queue.map fun q => { q with emergency := false },
      program := s.store.program.map fun p => { p with emergency := false } } }

/-- RETAIN entry in the Tally Store: the program torn, the queue dropped, the timers stopped (R147). -/
def tearStore (s : State) : State :=
  let t := match s.store.program with
    | none => s.store
    | some p =>
      let t := s.store.spoil p
      { t with program := none, counts := { t.counts with torn := satSucc top16 t.counts.torn } }
  { s with
    store := { t with
      queue := [], interval := none, hourly := none,
      counts := { t.counts with dropped := min top16 (t.counts.dropped + t.queue.length) } }
    supply := { s.supply with incomplete := s.store.program.isSome || !s.store.queue.isEmpty } }

/-- The warm start's repairs: changed units, the current shift, the time record, and both timers from 0 (R149). -/
def repairStore (s : State) : State :=
  startHourly (startInterval (request .time (request .currentShift (requestChangedUnits s))))

end Sys2Proof.Machine
end

