-- ==== Sys2Proof/Machine/Shift.lean ====
section
/-! DEFINITION. The Shift Controller: boundaries, handovers, completion, the bell (chapter 8). -/

namespace Sys2Proof.Machine

/-! ### The bell (R174) -/

/-- A trigger: BELL_OUT high for one bell width from now (R174). -/
def ringBell (s : State) : State :=
  { s with shift := { s.shift with bell := some (intervalFrom s (s.settings.shift.bellWidth * Config.tenth)) } }

def bellDue (s : State) : Bool := working s && ended s s.shift.bell

/-- BELL_PULSE_END (R174). -/
def endBell (s : State) : State := if bellDue s = false then s else { s with shift := { s.shift with bell := none } }

/-! ### Openings (R159, R164) -/

/-- A handover opens, HANDOVER_OPEN is posted and the bell triggered (R159, R164). -/
def openHandoverBy (opener : OpenedBy) (expected : Option (BitVec 4)) (stamp : FullStamp) (s : State) : State :=
  let h : Handover :=
    { openedBy := opener, expected := expected, stamp := stamp, reading := now s, released := none, accepted := none,
      missed := 0 }
  ringBell (post .handoverOpen { s with shift := { s.shift with state := .handoverOpen, handover := some h } })

/-- Boundary `index` fires on day `d`: its marker takes the day, and a handover opens or counts a missed boundary (R159). -/
def fireBoundary (index : Nat) (b : Boundary) (d : BitVec 16) (stamp : FullStamp) (s : State) : State :=
  let s : State := { s with shift := { s.shift with markers := s.shift.markers.set index (some d) } }
  match s.shift.state, s.shift.handover with
  | .onShift, _ => openHandoverBy (.schedule index b.second) b.crew stamp s
  | _, none => s
  | _, some h => { s with shift := { s.shift with handover := some { h with missed := satSucc top16 h.missed } } }

/-- Boundary `index` is due on day `d`: its marker is absent, or `d` is later than its marker (R156). -/
def boundaryDue (s : State) (index : Nat) (d : BitVec 16) : Bool :=
  match s.shift.markers[index]? with
  | some (some m) => dayLater d m
  | _ => true

/-- The boundary of the schedule at a second of day, with its index (R157). -/
def boundaryAt (s : State) (second : Nat) : Option (Nat × Boundary) :=
  (s.settings.shift.schedule.zipIdx.find? fun x => decide (x.1.second = second)).map fun x => (x.2, x.1)

/-- The check at a station second boundary (R157): nothing fires in UNSET. -/
def checkBoundary (s : State) : State :=
  if s.clk.state = .unset then s
  else
    match boundaryAt s s.clk.time.second with
    | none => s
    | some (i, b) => if boundaryDue s i s.clk.time.day then fireBoundary i b s.clk.time.day (stampNow s) s else s

/-! ### Steps (R158) -/

/-- A boundary that a forward step carried station time past, with the day it falls on and how long before the end of
the step its instant lies. -/
structure Passed where
  index : Nat
  boundary : Boundary
  day : BitVec 16
  back : Int
deriving DecidableEq, Repr

/-- The latest instant of boundary `b` at or before `after`, when it lies after `before` (R158). -/
def passedBy (before after : StationTime) (x : Boundary × Nat) : Option Passed :=
  let d := if x.1.second ≤ after.second then after.day else after.day - 1
  let back := tickDifference after { day := d, second := x.1.second, fraction := 0 }
  if back < tickDifference after before then some { index := x.2, boundary := x.1, day := d, back := back } else none

/-- Puts a passed boundary in its place, the earliest instant first (R158). -/
def insertPassed (x : Passed) : List Passed → List Passed
  | [] => [x]
  | y :: rest => if y.back < x.back then x :: y :: rest else y :: insertPassed x rest

/-- The boundaries that a forward step carried station time past, in ascending order of their instants (R158). -/
def passedBoundaries (schedule : List Boundary) (before after : StationTime) : List Passed :=
  (schedule.zipIdx.filterMap (passedBy before after)).foldr insertPassed []

/-- Fires each passed boundary that is due on its day, with the stamp of now (R158). -/
def firePassed (xs : List Passed) (s : State) : State :=
  xs.foldl
    (fun t x => if boundaryDue t x.index x.day then fireBoundary x.index x.boundary x.day (stampNow t) t else t) s

/-- The report of a step from `before` to `after` that is no first date (R158): nothing fires in UNSET or at a backward
step. -/
def reportStep (before after : StationTime) (s : State) : State :=
  if s.clk.state = .unset then s
  else if tickDifference after before ≤ 0 then s
  else firePassed (passedBoundaries s.settings.shift.schedule before after) s

/-! ### The window (R165) -/

/-- The handover is open and its window has reached Wh (R165). -/
def windowDue (s : State) : Bool :=
  match s.shift.state, s.shift.handover with
  | .handoverOpen, some h => working s && decide (s.settings.shift.window * 60 * Config.second ≤ since s h.reading)
  | _, _ => false

/-- The handover becomes overdue when its window has run out, with its notice and the bell (R165). -/
def judgeWindow (s : State) : State :=
  if windowDue s = false then s
  else ringBell (post .handoverOverdue { s with shift := { s.shift with state := .handoverOverdue } })

/-! ### Completion (R168, R171 to R173) -/

/-- A unit shows growth: a delta tally with nonzero seconds, or a nonzero delta count (R172). -/
def Deltas.grown (d : Deltas) : Bool :=
  decide (d.generating.seconds ≠ 0 ∨ d.pumping.seconds ≠ 0 ∨ d.condensing.seconds ≠ 0 ∨ d.counts ≠ .zero)

/-- The entry of unit `u` in the unit list (R172). -/
def unitEntry (s : State) (u : Fin 8) : UnitEntry :=
  { unit := u, genSeconds := (s.units.get u).deltas.generating.seconds,
    pumpSeconds := (s.units.get u).deltas.pumping.seconds, condSeconds := (s.units.get u).deltas.condensing.seconds,
    counts := (s.units.get u).deltas.counts }

/-- The unit list: the units fitted at completion that show growth, in ascending order (R172). -/
def unitList (s : State) : List UnitEntry :=
  (allUnits.filter fun u => isFitted s u && (s.units.get u).deltas.grown).map (unitEntry s)

/-- The record of the outgoing shift (R171). -/
def buildRecord (h : Handover) (a : Acceptance) (forced : Bool) (s : State) : ShiftRecord :=
  { number := s.shift.current.number, crewOut := s.shift.current.crew, crewIn := a.crew,
    start := s.shift.current.start, opened := h.stamp, completed := stampNow s,
    duration := since s h.reading / Config.second,
    length := min top32 (since s s.shift.current.startReading / Config.second),
    openedBy := h.openedBy, releasedBy := h.released, acceptedBy := a.port,
    overdue := decide (s.shift.state = .handoverOverdue),
    forcedHold := if forced then some s.shift.holdCount else none,
    interrupted := s.shift.current.interrupted, missed := h.missed,
    worst := s.shift.current.worst.poorer (gradeNow s), summary := s.shift.current.summary, units := unitList s }

/-- The shift that begins at completion (R173). -/
def newShift (a : Acceptance) (s : State) : CurrentShift :=
  { number := s.shift.current.number + 1, crew := a.crew, start := stampNow s, startReading := now s,
    interrupted := false, worst := gradeNow s, summary := .zero }

/-- The shift running deltas of all eight units become 0 (R123, R173). -/
def zeroDeltas (s : State) : State :=
  { s with units := .ofFn fun u => { s.units.get u with deltas := .zero } }

/-- Completion of the open handover `h` accepted as `a` (R173). DESIGN CHOICE (log entry 37): the list keeps 16 records, so that a
record leaves it at the sixteenth completion after its own, as R173 and the table of chapter 8 give; R176 says the seventeenth. -/
def complete (h : Handover) (a : Acceptance) (forced : Bool) (s : State) : State :=
  let r := buildRecord h a forced s
  let s : State :=
    { s with shift := { s.shift with
        records := (r :: s.shift.records).take 16, current := newShift a s, handover := none, state := .onShift } }
  ringBell (post .handoverDone (request .currentShift (request .shiftRecord (zeroDeltas s))))

/-- The completion check (R168): released is set, an accepted crew is present, and the hold count is 0. -/
def checkCompletion (s : State) : State :=
  match s.shift.handover with
  | none => s
  | some h =>
    match h.released, h.accepted with
    | some _, some a => if s.shift.holdCount = 0 then complete h a false s else s
    | _, _ => s

/-- The hold count handed by the Burst Table: the Shift Controller acts when it falls to 0 (R101, R168). -/
def handHoldCount (n : Nat) (s : State) : State :=
  let fell := decide (n = 0 ∧ s.shift.holdCount ≠ 0)
  let s : State := { s with shift := { s.shift with holdCount := n } }
  if fell then checkCompletion s else s

/-! ### The trip summary and the worst grade (R161, R162) -/

def countAssert (s : State) : State :=
  { s with shift := { s.shift with current := { s.shift.current with
      summary := { s.shift.current.summary with asserts := satSucc top32 s.shift.current.summary.asserts } } } }

def countBurst (s : State) : State :=
  { s with shift := { s.shift with current := { s.shift.current with
      summary := { s.shift.current.summary with bursts := satSucc top32 s.shift.current.summary.bursts } } } }

def countFault (s : State) : State :=
  { s with shift := { s.shift with current := { s.shift.current with
      summary := { s.shift.current.summary with faults := satSucc top32 s.shift.current.summary.faults } } } }

/-- The worst grade of the shift takes the present grade when that is poorer (R161). -/
def judgeWorst (s : State) : State :=
  { s with shift := { s.shift with current := { s.shift.current with
      worst := s.shift.current.worst.poorer (gradeNow s) } } }

/-! ### Supply loss and the warm start (R178, R179) -/

/-- RETAIN entry in the Shift Controller (R178). -/
def retainShift (s : State) : State := { s with shift := { s.shift with bell := none } }

/-- The warm start in the Shift Controller: the boundaries of the gap, the window, the worst grade (R179). -/
def warmShift (s : State) : State :=
  let s := match s.supply.gapStart with
    | none => s
    | some g => reportStep g.time s.clk.time s
  judgeWorst (judgeWindow s)

/-! ### Commands of the handover (R164 to R170) -/

/-- OPEN HANDOVER (R164). -/
def openHandover (p : Port) (s : State) : Reply :=
  if s.shift.state = .onShift then { state := openHandoverBy (.port p) none (stampNow s) s, status := .done }
  else refuse .notNow s

/-- RELEASE SHIFT (R166): the first releasing port is kept. -/
def releaseShift (p : Port) (s : State) : Reply :=
  match s.shift.state, s.shift.handover with
  | .onShift, _ => refuse .notNow s
  | _, none => refuse .notNow s
  | _, some h =>
    { state := checkCompletion { s with shift := { s.shift with
        handover := some { h with released := some (h.released.getD p) } } }
      status := .done }

/-- The crew test (R167): not the crew on shift, and the expected crew when one is expected. -/
def crewFits (s : State) (h : Handover) (c : BitVec 4) : Bool :=
  decide (c ≠ s.shift.current.crew) && (match h.expected with | none => true | some e => decide (c = e))

/-- ACCEPT SHIFT (R167). -/
def acceptShift (p : Port) (crew : Nat) (s : State) : Reply :=
  match crewOf crew with
  | none => refuse .badArgument s
  | some c =>
    match s.shift.state, s.shift.handover with
    | .onShift, _ => refuse .notNow s
    | _, none => refuse .notNow s
    | _, some h =>
      if crewFits s h c = false then refuse .wrongCrew s
      else
        { state := checkCompletion { s with shift := { s.shift with
            handover := some { h with accepted := some { crew := c, port := p } } } }
          status := .done }

/-- FORCE HANDOVER (R169). -/
def forceHandover (p : Port) (crew : Nat) (s : State) : Reply :=
  match crewOf crew with
  | none => refuse .badArgument s
  | some c =>
    match s.shift.state, s.shift.handover with
    | .onShift, _ => refuse .notNow s
    | _, none => refuse .notNow s
    | _, some h =>
      if crewFits s h c = false then refuse .wrongCrew s
      else
        { state := complete { h with accepted := some { crew := c, port := p } } { crew := c, port := p } true s
          status := .done }

/-- CANCEL HANDOVER (R170). -/
def cancelHandover (s : State) : Reply :=
  if s.shift.state = .onShift then refuse .notNow s
  else { state := { s with shift := { s.shift with state := .onShift, handover := none } }, status := .done }

/-! ### Settings of the shift (R160, R177) -/

/-- One boundary of SET SCHEDULE's argument: second (3 bytes) and crew (1 byte); none when it is refused (R160). -/
def boundaryOf (args : List Byte) (k : Nat) : Option Boundary :=
  match expectedCrewOf (argNumber args (1 + 4 * k + 3) 1) with
  | none => none
  | some crew =>
    if argNumber args (1 + 4 * k) 3 < Config.day then some { second := argNumber args (1 + 4 * k) 3, crew := crew }
    else none

/-- The boundaries of an argument, none when one of them is refused (R160). -/
def boundariesOf (args : List Byte) : Nat → Option (List Boundary)
  | 0 => some []
  | k + 1 =>
    match boundariesOf args k, boundaryOf args k with
    | some bs, some b => some (bs ++ [b])
    | _, _ => none

/-- No two boundaries have the same second of day (R156). -/
def distinctSeconds : List Boundary → Bool
  | [] => true
  | b :: rest => rest.all (fun c => decide (c.second ≠ b.second)) && distinctSeconds rest

/-- Puts a boundary in its place, ascending by second of day (R156). -/
def insertBoundary (b : Boundary) : List Boundary → List Boundary
  | [] => [b]
  | c :: rest => if b.second < c.second then b :: c :: rest else c :: insertBoundary b rest

def sortBoundaries (bs : List Boundary) : List Boundary := bs.foldr insertBoundary []

/-- The new marker of a boundary written now (R160). -/
def freshMarker (s : State) (b : Boundary) : Option (BitVec 16) :=
  some (if b.second ≤ s.clk.time.second then s.clk.time.day else s.clk.time.day - 1)

/-- The length that SET SCHEDULE's count calls for (R188, section 11.9): a count of 15 or more fits no frame. -/
def scheduleLengthFits (args : List Byte) : Bool :=
  match args with
  | [] => false
  | c :: _ => decide (c.toNat ≤ 14 ∧ args.length = 1 + 4 * c.toNat)

/-- SET SCHEDULE (R160). -/
def setSchedule (p : Port) (args : List Byte) (s : State) : Reply :=
  if 6 < argNumber args 0 1 then refuse .badArgument s
  else
    match boundariesOf args (argNumber args 0 1) with
    | none => refuse .badArgument s
    | some bs =>
      if distinctSeconds bs = false then refuse .badArgument s
      else
        unlessLocked p .shift
          (fun s =>
            { state := { s with
                settings := { s.settings with shift := { s.settings.shift with schedule := sortBoundaries bs } }
                shift := { s.shift with markers := (sortBoundaries bs).map (freshMarker s) } }
              status := .done })
          s

/-- SET SHIFT TIMES (R177): Wh is judged at once, the bell width at the next trigger. -/
def setShiftTimes (p : Port) (args : List Byte) (s : State) : Reply :=
  let wh := argNumber args 0 1
  let width := argNumber args 1 1
  unlessLocked p .shift
    (fun s =>
      { state := judgeWindow { s with settings := { s.settings with shift := { s.settings.shift with
          window := clampNat 1 120 wh, bellWidth := clampNat 5 100 width } } }
        status := clampedStatus (outside 1 120 wh || outside 5 100 width) })
    s

/-! ### Reading the shift (R175, R176) -/

/-- READ SHIFT (R175). -/
def shiftSample (s : State) : ShiftSample :=
  { state := s.shift.state, current := s.shift.current,
    age := since s s.shift.current.startReading / Config.second,
    handover := s.shift.handover.map fun h =>
      { handover := h, age := since s h.reading / Config.second,
        left := if s.shift.state = .handoverOverdue then 0
                else (s.settings.shift.window * 60 * Config.second - since s h.reading) / Config.second },
    holdCount := s.shift.holdCount,
    schedule := s.settings.shift.schedule.zipIdx.map fun x =>
      { index := x.2, second := x.1.second, crew := x.1.crew, marker := (s.shift.markers[x.2]?).getD none },
    window := s.settings.shift.window, bellWidth := s.settings.shift.bellWidth, bellHigh := s.shift.bell.isSome,
    records := s.shift.records.map fun r => r.number }

/-- READ SHIFT RECORD (R176): the newest record of the number. -/
def readShiftRecord (number : Nat) (s : State) : Reply :=
  match s.shift.records.find? fun r => decide (r.number.toNat = number) with
  | none => refuse .notFound s
  | some r => { state := s, status := .done, result := .shiftRecord r }

end Sys2Proof.Machine
end

