-- ==== Sys2Proof/Machine/Units.lean ====
section
/-! DEFINITION. The Unit Mode Decoder and the Tally Counters (chapter 6). -/

namespace Sys2Proof.Machine

/-! ### Tallies and counts (R119, R123) -/

def Tally.saturated (t : Tally) : Bool := decide (top32 ≤ t.seconds ∧ 9 ≤ t.tenths)

/-- A tally grows by one tenth (R119). -/
def Tally.grow (t : Tally) : Tally :=
  if t.saturated then t
  else if t.tenths < 9 then { t with tenths := t.tenths + 1 }
  else { seconds := t.seconds + 1, tenths := 0 }

def ModeTallies.get (t : ModeTallies) : Mode → Tally
  | .standstill => t.standstill
  | .starting => t.starting
  | .generating => t.generating
  | .pumping => t.pumping
  | .condensing => t.condensing
  | .stopping => t.stopping
  | .invalid => t.invalid

def ModeTallies.put (t : ModeTallies) (m : Mode) (x : Tally) : ModeTallies :=
  match m with
  | .standstill => { t with standstill := x }
  | .starting => { t with starting := x }
  | .generating => { t with generating := x }
  | .pumping => { t with pumping := x }
  | .condensing => { t with condensing := x }
  | .stopping => { t with stopping := x }
  | .invalid => { t with invalid := x }

def Counts.get (c : Counts) : CountKind → Nat
  | .genStarts => c.genStarts
  | .pumpStarts => c.pumpStarts
  | .aborted => c.aborted
  | .faults => c.faults

def Counts.put (c : Counts) (k : CountKind) (n : Nat) : Counts :=
  match k with
  | .genStarts => { c with genStarts := n }
  | .pumpStarts => { c with pumpStarts := n }
  | .aborted => { c with aborted := n }
  | .faults => { c with faults := n }

/-- The delta of a running mode grows by one tenth; the other modes have none (R123). -/
def Deltas.grow (d : Deltas) : Mode → Deltas
  | .generating => { d with generating := d.generating.grow }
  | .pumping => { d with pumping := d.pumping.grow }
  | .condensing => { d with condensing := d.condensing.grow }
  | _ => d

/-- The running modes (section 0.3). -/
def Mode.running : Mode → Bool
  | .generating => true
  | .pumping => true
  | .condensing => true
  | _ => false

/-- The sum of the seconds of the three running tallies, without saturation (R119). -/
def MachineUnit.runningTotal (x : MachineUnit) : Nat :=
  x.tallies.generating.seconds + x.tallies.pumping.seconds + x.tallies.condensing.seconds

/-- The tally of a mode takes a tenth, and its delta with it unless the tally is saturated (R120, R123). -/
def MachineUnit.takeTenth (x : MachineUnit) (m : Mode) : MachineUnit :=
  { x with tallies := x.tallies.put m (x.tallies.get m).grow,
           deltas := if (x.tallies.get m).saturated then x.deltas else x.deltas.grow m }

/-- A count gains 1, saturating, and its delta gains 1 when the count does (R121 to R123). -/
def MachineUnit.gain (x : MachineUnit) (k : CountKind) : MachineUnit :=
  { x with counts := x.counts.put k (satSucc top32 (x.counts.get k)),
           deltas :=
             if x.counts.get k < top32 then
               { x.deltas with counts := x.deltas.counts.put k (satSucc top32 (x.deltas.counts.get k)) }
             else x.deltas }

/-! ### The service test (R124) -/

/-- The service test of unit `u`: fitted, a nonzero limit, a clear flag, a running total at the limit or more (R124). -/
def serviceTest (u : Fin 8) (s : State) : State :=
  let x := s.units.get u
  let limit := s.settings.tally.limits.get u
  if isFitted s u = true ∧ limit ≠ 0 ∧ x.serviceDue = false ∧ limit ≤ x.runningTotal then
    post .serviceDue (s.withUnit u { x with serviceDue := true })
  else s

/-! ### Elapsed tenths (R120) -/

/-- A unit takes one elapsed tenth into the tally of its unit mode; a running tally that gains a second has the service
test made (R120, R124). -/
def growUnit (s : State) (u : Fin 8) : State :=
  match isFitted s u, (s.units.get u).mode with
  | true, some m =>
    let x := s.units.get u
    let y := x.takeTenth m
    let t := s.withUnit u y
    if m.running = true ∧ (x.tallies.get m).seconds < (y.tallies.get m).seconds then serviceTest u t else t
  | _, _ => s

/-- ELAPSED_TENTH: an issued tenth is taken; outside RETAIN every fitted unit counts it (R2, R120, R130). -/
def takeTenth (s : State) : State :=
  if s.clk.tenths = 0 then s
  else
    let s : State := { s with clk := { s.clk with tenths := s.clk.tenths - 1 } }
    if working s = false then s else allUnits.foldl growUnit s

/-! ### Counting (R121, R122) -/

/-- A count of unit `u` gains 1, and its record is requested (R121, R122). -/
def countEvent (k : CountKind) (u : Fin 8) (s : State) : State :=
  request (.unit u) (s.withUnit u ((s.units.get u).gain k))

/-- A transition of a unit's settled mode, counted by the mode entered and the mode left (R121). -/
def countTransition (u : Fin 8) (left : Option Mode) (entered : Mode) (s : State) : State :=
  match entered, left with
  | .generating, some .starting => countEvent .genStarts u s
  | .generating, some .standstill => countEvent .genStarts u s
  | .pumping, some .starting => countEvent .pumpStarts u s
  | .pumping, some .standstill => countEvent .pumpStarts u s
  | .standstill, some .starting => countEvent .aborted u s
  | .stopping, some .starting => countEvent .aborted u s
  | .invalid, _ => post .modeInvalid s
  | _, _ => s

/-- A fault trip handed for unit `u`: counted when the unit is fitted, in the shift's summary too (R122, R162). -/
def faultTrip (u : Fin 8) (s : State) : State :=
  if isFitted s u then countEvent .faults u (countFault s) else s

/-! ### Decoding and settling (R114, R115) -/

/-- The mode that the table gives the present code of unit `u` (R113). -/
def decodedMode (s : State) (u : Fin 8) : Mode := s.settings.tally.modeTable.get (unitCode s u).toFin

/-- The decoded mode of a fitted unit is compared with the raw mode it replaces (R114). -/
def decodeUnit (u : Fin 8) (s : State) : State :=
  let x := s.units.get u
  let m := decodedMode s u
  if x.raw = some m then s
  else if x.mode = some m then s.withUnit u { x with raw := some m, candidate := none }
  else s.withUnit u { x with raw := some m, candidate := some m, settleStart := now s }

/-- A settling of unit `u` has reached Ts (R115). -/
def settleDue (u : Fin 8) (s : State) : Bool :=
  working s && isFitted s u && (s.units.get u).candidate.isSome
    && decide (s.settings.tally.settle * Config.tenth ≤ since s (s.units.get u).settleStart)

/-- The candidate becomes the unit mode, and the transition is counted (R115). -/
def settle (u : Fin 8) (s : State) : State :=
  match (s.units.get u).candidate with
  | none => s
  | some m =>
    let x := s.units.get u
    countTransition u x.mode m
      (s.withUnit u { x with mode := some m, candidate := none, modeEntry := some (now s) })

/-- SETTLE_EXPIRY (R115). -/
def expireSettle (u : Fin 8) (s : State) : State := if settleDue u s then settle u s else s

/-- UNIT_CODE_CHANGE: the lines of unit `u` take a new code; the decoder of a working part takes the change of a fitted
unit (R112, R114, R130). -/
def changeCode (u : Fin 8) (code : BitVec 4) (s : State) : State :=
  if unitCode s u = code then s
  else
    let s : State := { s with pins := { s.pins with unitState := withUnitCode s.pins.unitState u code } }
    if working s && isFitted s u then decodeUnit u s else s

/-! ### Fitted and unfitted units (R118) -/

/-- The modes of a fitted unit taken from its code, with no settle and no transition (R118, R131, R133). -/
def takeMode (u : Fin 8) (s : State) : State :=
  s.withUnit u { s.units.get u with
    raw := some (decodedMode s u), mode := some (decodedMode s u), candidate := none, modeEntry := some (now s) }

/-- A unit changed from unfitted to fitted (R118). -/
def fitUnit (u : Fin 8) (s : State) : State := serviceTest u (takeMode u s)

/-- A unit changed from fitted to unfitted (R118). -/
def unfitUnit (u : Fin 8) (s : State) : State :=
  s.withUnit u { s.units.get u with raw := none, mode := none, candidate := none, modeEntry := none }

/-- The change of fitted setting of unit `u` against the old fitted set (R118). -/
def refit (old : BitVec 8) (s : State) (u : Fin 8) : State :=
  match old.getLsbD u.val, isFitted s u with
  | false, true => fitUnit u s
  | true, false => unfitUnit u s
  | _, _ => s

/-! ### Commands of the units (R116, R117, R125, R126) -/

/-- The modes that a list of codes names, none when one names no mode (R116). -/
def modesOf : List Nat → Option (List Mode)
  | [] => some []
  | n :: rest =>
    match modeOf n, modesOf rest with
    | some m, some ms => some (m :: ms)
    | _, _ => none

/-- SET MODE TABLE (R116). -/
def setModeTable (p : Port) (args : List Byte) (s : State) : Reply :=
  match modesOf (args.map BitVec.toNat) with
  | none => refuse .badArgument s
  | some ms =>
    if h : ms.length = 16 then
      unlessLocked p .tally
        (fun s =>
          let s : State :=
            { s with settings := { s.settings with tally := { s.settings.tally with modeTable := ⟨ms, h⟩ } } }
          { state := allUnits.foldl (fun t u => if isFitted t u then decodeUnit u t else t) s, status := .done })
        s
    else refuse .badLength s

/-- SET UNITS (R117): the new Ts applies at once, so a settling that has reached it ends now. DESIGN CHOICE (log entry 35): settlings
that end together end in unit order 0..7, their transitions and requests with them; and the new fitted set applies first, so
that a unit it unfits has its settling abandoned (R118), with no transition, though the settling has reached the new Ts. -/
def setUnits (p : Port) (args : List Byte) (s : State) : Reply :=
  let ts := argNumber args 2 2
  match maskOf 8 (argNumber args 0 2) with
  | none => refuse .badArgument s
  | some fitted =>
    unlessLocked p .tally
      (fun s =>
        let old := s.settings.tally.fitted
        let s : State :=
          { s with settings := { s.settings with tally := { s.settings.tally with
              fitted := fitted, settle := clampNat 1 300 ts } } }
        { state := allUnits.foldl (fun t u => expireSettle u t) (allUnits.foldl (refit old) s)
          status := clampedStatus (outside 1 300 ts) })
      s

/-- SET SERVICE LIMIT (R125): the flag is cleared and the service test made at once. -/
def setServiceLimit (p : Port) (args : List Byte) (s : State) : Reply :=
  match indexOf 8 (argNumber args 0 1) with
  | none => refuse .badArgument s
  | some u =>
    unlessLocked p .tally
      (fun s =>
        let s : State :=
          { s with settings := { s.settings with tally := { s.settings.tally with
              limits := s.settings.tally.limits.set u (argNumber args 1 4) } } }
        { state := serviceTest u (s.withUnit u { s.units.get u with serviceDue := false }), status := .done })
      s

/-- The unit's mode is settled in STANDSTILL (R126). -/
def settledStandstill (s : State) (u : Fin 8) : Bool :=
  isFitted s u && decide ((s.units.get u).mode = some .standstill) && (s.units.get u).candidate.isNone

/-- The tally or count written by PRESET TALLY (R126). -/
def MachineUnit.preset (x : MachineUnit) (sel : Selector) (v : Nat) : MachineUnit :=
  match sel with
  | .tally m => { x with tallies := x.tallies.put m { seconds := v, tenths := 0 } }
  | .count k => { x with counts := x.counts.put k v }

/-- PRESET TALLY (R126). -/
def presetTally (p : Port) (args : List Byte) (s : State) : Reply :=
  match indexOf 8 (argNumber args 0 1), selectorOf (argNumber args 1 1) with
  | some u, some sel =>
    unlessLocked p .tally
      (fun s =>
        if settledStandstill s u = false then refuse .notNow s
        else
          let s := request (.unit u) (s.withUnit u ((s.units.get u).preset sel (argNumber args 2 4)))
          { state := match sel with
              | .tally m => if m.running then serviceTest u s else s
              | .count _ => s
            status := .done })
      s
  | _, _ => refuse .badArgument s

/-! ### Reading the units (R127 to R129) -/

/-- What READ UNIT samples of unit `u` (R127). -/
def unitSample (s : State) (u : Fin 8) : UnitSample :=
  let x := s.units.get u
  { fitted := isFitted s u, code := unitCode s u, raw := x.raw, candidate := x.candidate,
    settleTenths := if x.candidate.isSome then some (min top16 (since s x.settleStart / Config.tenth)) else none,
    mode := x.mode, modeSeconds := x.modeEntry.map fun r => min top32 (since s r / Config.second),
    tallies := x.tallies, counts := x.counts, runningTotal := x.runningTotal,
    limit := s.settings.tally.limits.get u, serviceDue := x.serviceDue, deltas := x.deltas }

/-- One unit of READ UNITS (R128). -/
def unitSummary (s : State) (u : Fin 8) : UnitSummary :=
  { fitted := isFitted s u, code := unitCode s u, mode := (s.units.get u).mode, candidate := (s.units.get u).candidate,
    serviceDue := (s.units.get u).serviceDue }

/-- READ UNIT (R127). -/
def readUnit (args : List Byte) (s : State) : Reply :=
  match indexOf 8 (argNumber args 0 1) with
  | none => refuse .badArgument s
  | some u => { state := s, status := .done, result := .unit (unitSample s u) }

/-- READ MODE TABLE (R129). -/
def tableSample (s : State) : TableSample :=
  { modeTable := s.settings.tally.modeTable, fitted := s.settings.tally.fitted, settle := s.settings.tally.settle,
    limits := s.settings.tally.limits }

/-! ### Supply loss and the starts (R130, R131) -/

/-- RETAIN entry of a unit: a settling is abandoned and the raw mode takes the unit mode (R130). -/
def MachineUnit.retain (x : MachineUnit) : MachineUnit := { x with raw := x.mode, candidate := none }

/-- RETAIN entry in the Unit Mode Decoder (R130); an unfitted unit has neither. -/
def retainUnits (s : State) : State := { s with units := .ofFn fun u => (s.units.get u).retain }

/-- The warm start in the Unit Mode Decoder (R131). R130 says that the time since the mode entry reading, which went on growing
in RETAIN, is seen to have grown in READ UNIT after the return; R131 makes that reading the present one at warm start.
DESIGN CHOICE (log entry 36): the model follows R131. -/
def warmUnits (s : State) : State := allUnits.foldl (fun t u => if isFitted t u then takeMode u t else t) s

end Sys2Proof.Machine
end

