-- ==== Sys2Proof/Machine/TripLog.lean ====
section
/-! DEFINITION. The Burst Table and the Trip Log (chapter 5). -/

namespace Sys2Proof.Machine

/-! ### Filters (R98, R99) -/

def Actions.none : Actions := { faultTrip := false, holdHandover := false, notifyAll := false }

def Actions.join (x y : Actions) : Actions :=
  { faultTrip := x.faultTrip || y.faultTrip, holdHandover := x.holdHandover || y.holdHandover,
    notifyAll := x.notifyAll || y.notifyAll }

/-- An assert of a unit and trip code matches a filter (R98). -/
def Filter.accepts (f : Filter) (unit : UnitSel) (code : BitVec 6) : Bool :=
  decide (code &&& f.mask = f.code &&& f.mask) && f.units.getLsbD unit.val

/-- The actions of all filters that an assert matches (R99). -/
def matchedActions (s : State) (unit : UnitSel) (code : BitVec 6) : Actions :=
  s.settings.inputs.filters.cells.foldl (fun a f => if f.accepts unit code then a.join f.actions else a) Actions.none

/-- The set that holds one unit or STATION. -/
def unitBit (unit : UnitSel) : BitVec 9 := BitVec.ofNat 9 (2 ^ unit.val)

/-! ### First-out (R95) -/

/-- Epoch `x` is earlier than epoch `y` (R95); 128 apart is a free value (log entry 9). -/
def epochEarlier (x y : BitVec 8) : Bool :=
  let d := (y - x).toNat
  if d = 128 then Config.epochTieEarlier x y else decide (1 ≤ d ∧ d ≤ 127)

/-- Member `x` is earlier than member `y`: by epoch, then stamp, then input number (R95). -/
def FirstOut.earlier (x y : FirstOut) : Bool :=
  if x.epoch ≠ y.epoch then epochEarlier x.epoch y.epoch
  else if stampDifference y.stamp x.stamp ≠ 0 then decide (0 < stampDifference y.stamp x.stamp)
  else decide (x.input.val < y.input.val)

/-! ### Burst notices (R104) -/

/-- The record's burst notices reach a port: a shared unit of interest, or NOTIFY_ALL (R104). -/
def reachesPort (s : State) (r : BurstRecord) (p : Port) : Bool :=
  r.actions.notifyAll || decide (r.units &&& (s.settings.notice.get p).interest ≠ 0)

/-- A burst notice posted for a record (R104). -/
def postBurst (k : NoticeKind) (r : BurstRecord) (s : State) : State := postWhere (reachesPort s r) k s

/-! ### Records and the hold count (R101) -/

/-- A record is counted in the hold count: UNACKNOWLEDGED with HOLD_HANDOVER (R101). -/
def BurstRecord.holds (r : BurstRecord) : Bool := r.ack.isNone && r.actions.holdHandover

/-- The held record that bears a number. -/
def BurstTable.find (t : BurstTable) (number : BitVec 16) : Option BurstRecord :=
  t.records.find? fun r => decide (r.number = number)

/-- Writes back the record of a number. -/
def BurstTable.put (t : BurstTable) (r : BurstRecord) : BurstTable :=
  { t with records := t.records.map fun x => if x.number = r.number then r else x }

/-- Hands the Burst Table's hold count to the Shift Controller when it changed (R101). -/
def setHoldCount (n : Nat) (s : State) : State :=
  if n = s.bursts.holdCount then s
  else handHoldCount n { s with bursts := { s.bursts with holdCount := n } }

/-- Replaces record `old` by `new`, of the same number, and moves the hold count by the change (R101). -/
def replaceRecord (old new : BurstRecord) (s : State) : State :=
  let n := s.bursts.holdCount + (if new.holds then 1 else 0) - (if old.holds then 1 else 0)
  setHoldCount n { s with bursts := s.bursts.put new }

/-! ### An assert taken by the Burst Table (R92 to R94, R100, R103) -/

/-- What an assert brings to the Burst Table (section 5.6). -/
structure Assert where
  input : Fin 16
  unit : UnitSel
  code : BitVec 6
  stamp : FullStamp
  seq : BitVec 16
  shift : BitVec 16
deriving DecidableEq, Repr

def Assert.member (a : Assert) : FirstOut :=
  { input := a.input, stamp := a.stamp.stamp, epoch := a.stamp.epoch, seq := a.seq }

/-- The machine unit of an assert whose fault trip is to be counted for a record with these counted units (R100). -/
def faultUnit (s : State) (a : Assert) (counted : BitVec 8) : Option (Fin 8) :=
  if h : a.unit.val < 8 then
    if (matchedActions s a.unit a.code).faultTrip = true ∧ counted.getLsbD a.unit.val = false then some ⟨a.unit.val, h⟩
    else none
  else none

/-- The counted fault units after an assert (R100). -/
def countedAfter (s : State) (a : Assert) (counted : BitVec 8) : BitVec 8 :=
  match faultUnit s a counted with
  | none => counted
  | some u => counted ||| BitVec.ofNat 8 (2 ^ u.val)

/-- The fault trip of an assert, handed to the Tally Counters (R100, R122). -/
def handFault (u : Option (Fin 8)) (s : State) : State :=
  match u with
  | none => s
  | some u => faultTrip u s

/-- A join's effect on the fields every join moves: count, units, actions, counted fault units (R94). -/
def BurstRecord.takeAssert (r : BurstRecord) (s : State) (a : Assert) : BurstRecord :=
  { r with
    asserts := satSucc top32 r.asserts
    units := r.units ||| unitBit a.unit
    actions := r.actions.join (matchedActions s a.unit a.code)
    counted := countedAfter s a r.counted }

/-- A join to the open record (R94): the gap begins again, in FORMING the first-out is compared, and an acknowledged OPEN
record is reopened (R103). -/
def joinOpen (r : BurstRecord) (a : Assert) (s : State) : State :=
  let reopens := decide (r.state = .opened) && r.ack.isSome
  let joined : BurstRecord :=
    { r.takeAssert s a with
      lastJoin := now s
      firstOut := if r.state = .forming ∧ a.member.earlier r.firstOut = true then a.member else r.firstOut
      ack := if reopens then none else r.ack }
  let t := handFault (faultUnit s a r.counted) (replaceRecord r joined s)
  if reopens then postBurst .burstReopened joined t else t

/-- An overflow join to the newest record (R93): its first-out and last join reading stand, and BURST is posted. -/
def joinOverflow (r : BurstRecord) (a : Assert) (s : State) : State :=
  let joined : BurstRecord := { r.takeAssert s a with overflowJoined := true }
  postBurst .burst joined (handFault (faultUnit s a r.counted) (replaceRecord r joined s))

/-- The next burst number that no held record bears, searched from `n` (R92). -/
def freeNumber (records : List BurstRecord) : Nat → BitVec 16 → BitVec 16
  | 0, n => n
  | fuel + 1, n => if records.any (fun r => decide (r.number = n)) then freeNumber records fuel (n + 1) else n

/-- The records with a place free for a new one: as they are when a place is free, else without the oldest CLOSED and
ACKNOWLEDGED record; none when there is no such record (R92). -/
def makePlace (records : List BurstRecord) : Option (List BurstRecord) :=
  if records.length < Config.burstPlaces then some records
  else
    match records.findIdx? fun r => decide (r.state = .closed) && r.ack.isSome with
    | none => none
    | some i => some (records.eraseIdx i)

/-- Opens a burst for an assert among the records that remain (R92). -/
def openBurst (records : List BurstRecord) (a : Assert) (s : State) : State :=
  let number := freeNumber records 33 s.bursts.nextNumber
  let r : BurstRecord :=
    { number := number, state := .forming, ack := none, shift := a.shift, opening := now s, lastJoin := now s,
      firstOut := a.member, asserts := 1, units := unitBit a.unit, actions := matchedActions s a.unit a.code,
      counted := countedAfter s a 0, lostEntries := false, overflowJoined := false }
  let t : State :=
    { s with bursts := { s.bursts with
        records := records ++ [r], openRef := some number, nextNumber := number + 1 } }
  let t := setHoldCount (t.bursts.holdCount + if r.holds then 1 else 0) t
  handFault (faultUnit s a 0) (countBurst t)

/-- The burst number that an assert's entry takes, and the state after the Burst Table has taken the assert (R84, R92 to
R94). -/
def takeAssert (a : Assert) (s : State) : BitVec 16 × State :=
  match s.bursts.openRef.bind s.bursts.find with
  | some r => (r.number, joinOpen r a s)
  | none =>
    match makePlace s.bursts.records with
    | some records => (freeNumber records 33 s.bursts.nextNumber, openBurst records a s)
    | none =>
      match s.bursts.records.getLast? with
      | some r => (r.number, joinOverflow r a s)
      | none => (0, s)

/-! ### The ring (R84 to R86) -/

/-- The oldest entry's sequence number, or the next one when the ring is empty (R86). -/
def TripLog.oldestSeq (l : TripLog) : BitVec 16 :=
  match l.ring with
  | [] => l.nextSeq
  | e :: _ => e.seq

/-- The lost-entries flag of the record a removed TRIP_ASSERT bears, when that record is UNACKNOWLEDGED (R85). -/
def flagLost (e : LogEntry) (s : State) : State :=
  match e.body with
  | .tripAssert _ _ _ burst _ =>
    { s with bursts := { s.bursts with
        records := s.bursts.records.map fun r =>
          if r.number = burst ∧ r.ack = none then { r with lostEntries := true } else r } }
  | _ => s

/-- A port whose cursor stood at the removed entry moves to the new oldest, counts a missed entry and is told (R86). -/
def moveCursor (removed : BitVec 16) (s : State) (p : Port) : State :=
  if s.log.cursors.get p = removed then
    postTo .logOverrun p
      { s with log := { s.log with
          cursors := s.log.cursors.set p (removed + 1), missed := s.log.missed.set p (satSucc top16 (s.log.missed.get p)) } }
  else s

/-- The removal of the oldest entry from a full ring (R85). -/
def removeOldest (s : State) : State :=
  match s.log.ring with
  | [] => s
  | e :: rest =>
    if s.log.ring.length < Config.ringSize then s
    else
      let s := flagLost e { s with log := { s.log with ring := rest } }
      moveCursor e.seq (moveCursor e.seq (moveCursor e.seq s .a) .b) .c

/-- The next sequence number is taken (R84). -/
def takeSeq (s : State) : State := { s with log := { s.log with nextSeq := s.log.nextSeq + 1 } }

/-- The entry joins the ring at its newest end (R84). -/
def joinRing (e : LogEntry) (s : State) : State := { s with log := { s.log with ring := s.log.ring ++ [e] } }

/-- The making of an entry that is no TRIP_ASSERT (R84). -/
def makeEntry (body : EntryBody) (stamp : FullStamp) (s : State) : State :=
  let s := removeOldest s
  joinRing { seq := s.log.nextSeq, stamp := stamp, shift := s.shift.current.number, body := body } (takeSeq s)

/-- The making of a TRIP_ASSERT entry: the Burst Table takes the assert, and the Shift Controller is told of it (R84, R162). -/
def makeAssert (i : Fin 16) (stamp : FullStamp) (resumed : Bool) (s : State) : State :=
  let setting := s.settings.inputs.inputs.get i
  let s := removeOldest s
  let a : Assert :=
    { input := i, unit := setting.unit, code := setting.code, stamp := stamp, seq := s.log.nextSeq,
      shift := s.shift.current.number }
  let taken := takeAssert a (takeSeq s)
  countAssert
    (joinRing
      { seq := a.seq, stamp := stamp, shift := a.shift, body := .tripAssert i setting.unit setting.code taken.1 resumed }
      taken.2)

/-! ### Closing (R96, R97, R110) -/

/-- The open record, when there is one. -/
def openRecord (s : State) : Option BurstRecord := s.bursts.openRef.bind s.bursts.find

/-- The gap of an OPEN record has reached Tg (R97). -/
def gapReached (s : State) (r : BurstRecord) : Bool :=
  decide (s.settings.inputs.burstGap * Config.milli ≤ since s r.lastJoin)

/-- A record is closed and the open burst reference cleared (R97). -/
def closeRecord (r : BurstRecord) (s : State) : State :=
  { s with bursts := { s.bursts.put { r with state := .closed } with openRef := none } }

/-- The first-out window has run its 30 ms (R96). -/
def windowCloseDue (s : State) : Bool :=
  match openRecord s with
  | none => false
  | some r => working s && decide (r.state = .forming) && decide (Config.firstOutWindow ≤ since s r.opening)

/-- FIRST_OUT_WINDOW_CLOSE (R96): OPEN with its first-out fixed, BURST posted, and closed at once when the gap has run. -/
def closeWindow (s : State) : State :=
  match openRecord s with
  | none => s
  | some r =>
    if windowCloseDue s = false then s
    else
      let r := { r with state := .opened }
      let t := postBurst .burst r { s with bursts := s.bursts.put r }
      if gapReached s r then closeRecord r t else t

/-- The gap of the OPEN burst has run out (R97). -/
def gapDue (s : State) : Bool :=
  match openRecord s with
  | none => false
  | some r => working s && decide (r.state = .opened) && gapReached s r

/-- The OPEN burst closes when its gap has run out (R97). -/
def judgeGap (s : State) : State :=
  match openRecord s with
  | none => s
  | some r => if gapDue s then closeRecord r s else s

/-- RETAIN entry in the Burst Table (R110): a FORMING or OPEN burst closes with its first-out as it stands. -/
def retainBursts (s : State) : State :=
  match openRecord s with
  | none => s
  | some r => closeRecord r s

/-! ### Commands of the log and the table -/

/-- READ LOG (R87). -/
def readLog (p : Port) (n : Nat) (s : State) : Reply :=
  let wanted := clampNat 1 8 n
  let skip := (s.log.cursors.get p - s.log.oldestSeq).toNat
  let entries := (s.log.ring.drop skip).take wanted
  let cursor := s.log.cursors.get p + BitVec.ofNat 16 entries.length
  { state := { s with log := { s.log with
      cursors := s.log.cursors.set p cursor, missed := s.log.missed.set p 0 } }
    status := clampedStatus (outside 1 8 n)
    result := .log
      { missed := s.log.missed.get p, moreFollows := decide (cursor ≠ s.log.nextSeq), entries := entries } }

/-- Where SEEK LOG sets the cursor (R88). -/
def seekTarget (l : TripLog) (x : BitVec 16) : BitVec 16 × Status :=
  if (x - l.oldestSeq).toNat < l.ring.length then (x, .done)
  else if x = l.nextSeq then (x, .done)
  else if (x - l.nextSeq).toNat < 32768 then (l.nextSeq, .doneClamped)
  else (l.oldestSeq, .doneClamped)

/-- The oldest sequence number, or none when the ring is empty. -/
def TripLog.oldest (l : TripLog) : Option (BitVec 16) := l.ring.head?.map fun e => e.seq

/-- SEEK LOG (R88). -/
def seekLog (p : Port) (x : BitVec 16) (s : State) : Reply :=
  { state := { s with log := { s.log with cursors := s.log.cursors.set p (seekTarget s.log x).1 } }
    status := (seekTarget s.log x).2
    result := .seek { cursor := (seekTarget s.log x).1, oldest := s.log.oldest, nextSeq := s.log.nextSeq } }

/-- READ LOG STATE (R89). -/
def logState (s : State) : LogState :=
  { held := s.log.ring.length, oldest := s.log.oldest, nextSeq := s.log.nextSeq, cursors := s.log.cursors,
    missed := s.log.missed }

/-- ACK BURST (R102). -/
def ackBurst (p : Port) (number : BitVec 16) (s : State) : Reply :=
  match s.bursts.find number with
  | none => refuse .notFound s
  | some r =>
    if r.state = .forming then refuse .notNow s
    else if r.ack.isSome then { state := s, status := .done }
    else { state := replaceRecord r { r with ack := some p } s, status := .done }

/-- LIST BURSTS (R105). -/
def burstList (s : State) : BurstList :=
  { holdCount := s.bursts.holdCount, freePlaces := Config.burstPlaces - s.bursts.records.length,
    openRef := s.bursts.openRef,
    lines := s.bursts.records.reverse.map fun r => { number := r.number, state := r.state, ack := r.ack } }

/-- READ BURST (R106). -/
def readBurst (number : BitVec 16) (s : State) : Reply :=
  match s.bursts.find number with
  | none => refuse .notFound s
  | some r =>
    { state := s, status := .done
      result := .burst { record := r, sinceOpening := millisSince s r.opening, sinceJoin := millisSince s r.lastJoin } }

/-- SET FILTER (R107). -/
def setFilter (p : Port) (args : List Byte) (s : State) : Reply :=
  match indexOf 4 (argNumber args 0 1), maskOf 6 (argNumber args 1 1), maskOf 6 (argNumber args 2 1),
      maskOf 9 (argNumber args 3 2), actionsOf (argNumber args 5 1) with
  | some i, some code, some mask, some units, some actions =>
    unlessLocked p .inputs
      (fun s =>
        { state := { s with settings := { s.settings with inputs := { s.settings.inputs with
            filters := s.settings.inputs.filters.set i { code := code, mask := mask, units := units, actions := actions } } } }
          status := .done })
      s
  | _, _, _, _, _ => refuse .badArgument s

/-- SET BURST GAP (R108): the new Tg is judged at once against the OPEN burst (R97). -/
def setBurstGap (p : Port) (args : List Byte) (s : State) : Reply :=
  let tg := argNumber args 0 2
  unlessLocked p .inputs
    (fun s =>
      { state := judgeGap { s with settings := { s.settings with inputs := { s.settings.inputs with
          burstGap := clampNat 20 5000 tg } } }
        status := clampedStatus (outside 20 5000 tg) })
    s

/-- READ FILTERS (R109). -/
def filterSample (s : State) : FilterSample :=
  { filters := s.settings.inputs.filters, burstGap := s.settings.inputs.burstGap }

end Sys2Proof.Machine
end

