-- ==== Sys2Proof/Machine/LineSend.lean ====
section
/-! DEFINITION. The sending side of the Time Line Controller: the telegram, the decision at a boundary, the standby phase, the
ends of an outgoing telegram (sections 3.1, 3.3, 3.4). -/

namespace Sys2Proof.Machine

/-! ### The telegram (R46) -/

/-- The bytes of a number, most significant first (R211). -/
def bytesOf (width n : Nat) : List Byte :=
  (List.range width).map fun k => BitVec.ofNat 8 (n / 256 ^ (width - 1 - k))

/-- The value that makes a sum of bytes 0 modulo 256 (R46). -/
def checkByte (bytes : List Byte) : Byte := 0 - bytes.foldl (· + ·) 0

/-- Byte 0: sender id, grade code, epoch modulo 4 (R46). -/
def telegramHead (id : BitVec 3) (grade : Grade) (epoch : BitVec 8) : Byte :=
  BitVec.ofNat 8 (id.toNat * 32 + grade.rank * 4 + epoch.toNat % 4)

/-- The seven bytes of a telegram (R46). -/
def telegramBytes (id : BitVec 3) (grade : Grade) (epoch : BitVec 8) (day : BitVec 16) (second : Nat) : List Byte :=
  let six := telegramHead id grade epoch :: (bytesOf 2 day.toNat ++ bytesOf 3 second)
  six ++ [checkByte six]

/-- The 56 bits of a telegram, the first sent as the most significant (R46). -/
def telegramBits (id : BitVec 3) (grade : Grade) (epoch : BitVec 8) (day : BitVec 16) (second : Nat) : BitVec 56 :=
  BitVec.ofNat 56 (numberOf (telegramBytes id grade epoch day second))

/-- The telegram the part sends at a boundary (R46). -/
def ownTelegram (s : State) : BitVec 56 :=
  telegramBits s.settings.line.ownId (gradeNow s) s.clk.epoch s.clk.time.day s.clk.time.second

/-- The bits of a telegram in the order sent. -/
def bitList (bits : BitVec 56) : List Bool := (List.range 56).map fun k => bits.getMsbD k

/-! ### The line (R45, R51) -/

/-- The bit period in which a telegram that began at capture `c` stands now: 0 the start bit, then 1..56 (R46, R48, R51). -/
def bitNow (s : State) (c : StartCapture) : Nat := since s c.reading / Config.bitPeriod

/-- The part's own telegram is going out: its bits and its capture. -/
def sendingNow (s : State) : Option (BitVec 56 × StartCapture) :=
  if working s = true ∧ s.tl.sendState = .sending then
    match s.tl.outgoing, s.tl.capture with
    | some bits, some c => some (bits, c)
    | _, _ => none
  else none

/-- A telegram pulls the line low in bit period `k`: in the start bit, and in a bit that is 0; after bit 56 it is over (R51). -/
def pullsIn (bits : BitVec 56) (k : Nat) : Bool := decide (k = 0) || (decide (k ≤ 56) && !bits.getMsbD (k - 1))

/-- The part pulls the line low now (R45, R51). -/
def partPulls (s : State) : Bool :=
  match sendingNow s with
  | none => false
  | some (bits, c) => pullsIn bits (bitNow s c)

/-- The level of TIME_LINE: low when the part or another party pulls it down (R45). -/
def lineLevel (s : State) : Level := if partPulls s then .low else s.pins.timeLine

/-- The line-free count follows the line's level from `was`: none on a low line, begun at 0 at a rise (R45). -/
def followLine (was : Level) (s : State) : State :=
  match was, lineLevel s with
  | .high, .low => { s with tl := { s.tl with freeCount := 0, highSince := none } }
  | .low, .high => { s with tl := { s.tl with freeCount := 0, highSince := some (now s) } }
  | _, _ => s

/-- The line is free: the count stands at 12 and the line is high (R45). -/
def lineIsFree (s : State) : Bool := decide (s.tl.freeCount = Config.lineFree) && decide (lineLevel s = .high)

/-! ### The decision at a boundary (R50, R55) -/

/-- The silence timer of the line: the elapsed time since it last restarted (chapter 3, table). -/
def lineSilence (s : State) : Nat := since s s.tl.silence

/-- A waiting STANDBY part whose silence timer has reached K goes to SENDING (R55). -/
def takeOver (s : State) : State :=
  if s.settings.line.role = .standby ∧ s.tl.phase = .waiting ∧ s.settings.line.takeover * Config.second ≤ lineSilence s then
    { s with tl := { s.tl with
        phase := .sending, counts := { s.tl.counts with takeovers := satSucc top16 s.tl.counts.takeovers } } }
  else s

/-- The role permits sending (R50, R54). -/
def mayRole (s : State) : Bool :=
  match s.settings.line.role with
  | .primary => true
  | .standby => decide (s.tl.phase = .sending)
  | .listen => false

/-- The grade permits sending: A, B or C (R50). -/
def mayGrade (s : State) : Bool := decide ((gradeNow s).rank ≤ 3)

/-- A telegram begun at a boundary: its start bit pulls the line low (R45, R51). -/
def beginTelegram (s : State) : State :=
  let capture : StartCapture :=
    { reading := now s, time := s.clk.time, epoch := s.clk.epoch, grade := gradeNow s, contested := false, stepped := false }
  { s with tl := { s.tl with
      freeCount := 0, highSince := none, sendState := .sending, receiver := .own, capture := some capture,
      outgoing := some (ownTelegram s), readBits := [] } }

/-- The send decision (R50): send, count a busy skip, or neither. -/
def decideSend (s : State) : State :=
  if mayRole s = false ∨ mayGrade s = false then s
  else if s.tl.sendState = .idle ∧ s.tl.receiver = .idle ∧ lineIsFree s = true then beginTelegram s
  else
    { s with tl := { s.tl with counts := { s.tl.counts with busySkips := satSucc top16 s.tl.counts.busySkips } } }

/-- The Time Line Controller at a station second boundary (R50, R55). -/
def boundaryLine (s : State) : State := decideSend (takeOver s)

/-! ### The ends of an outgoing telegram (R51 to R53) -/

/-- A STANDBY part in phase SENDING returns to WAITING (R55). -/
def yieldStandby (s : State) : State :=
  if s.settings.line.role = .standby then { s with tl := { s.tl with phase := .waiting } } else s

/-- The bit just read back as 0 where the part drove 1, by its number 1..56 (R51 to R53). -/
def mismatch (s : State) : Option Nat :=
  match sendingNow s with
  | none => none
  | some (bits, _) =>
    if s.tl.readBits.getLast? = some false ∧ bits.getMsbD (s.tl.readBits.length - 1) = true then some s.tl.readBits.length
    else none

/-- The mismatch lies in byte 0: a loss of arbitration (R52). -/
def lossDue (s : State) : Bool :=
  match mismatch s with
  | none => false
  | some k => decide (k ≤ 8)

/-- The mismatch lies in bytes 1 to 6: an id clash (R53). -/
def clashDue (s : State) : Bool :=
  match mismatch s with
  | none => false
  | some k => decide (8 < k)

/-- Every bit has been sent and read back as driven (R51). -/
def sentDue (s : State) : Bool :=
  match sendingNow s with
  | none => false
  | some (_, c) => decide (Config.telegramLength ≤ since s c.reading) && (mismatch s).isNone

/-- TELEGRAM_SENT (R51): the line has been released since bit 56 ended. -/
def completeSend (s : State) : State :=
  if sentDue s = false then s
  else
    { s with tl := { s.tl with
        sendState := .idle, receiver := .awaitHigh, capture := none, outgoing := none,
        counts := { s.tl.counts with sent := satSucc top16 s.tl.counts.sent } } }

/-- The part releases the line and goes on receiving, with the bits read kept and the capture marked contested (R52, R53). -/
def giveWay (s : State) : State :=
  yieldStandby
    (followLine (lineLevel s)
      { s with tl := { s.tl with
          sendState := .idle, receiver := .data, outgoing := none,
          capture := s.tl.capture.map fun c => { c with contested := true } } })

/-- ARBITRATION_LOSS (R52). -/
def loseArbitration (s : State) : State :=
  if lossDue s = false then s
  else
    giveWay { s with tl := { s.tl with counts := { s.tl.counts with
      arbitrationLosses := satSucc top16 s.tl.counts.arbitrationLosses } } }

/-- ID_CLASH (R53). -/
def clashId (s : State) : State :=
  if clashDue s = false then s
  else
    post .lineClash
      (giveWay { s with tl := { s.tl with counts := { s.tl.counts with
        idClashes := satSucc top16 s.tl.counts.idClashes } } })

/-- The middle of a bit in which the part pulls the line low has come, so that a 1 may be read there (R53): SEND_FAULT
comes from outside (log entry 21). -/
def faultCanCome (s : State) : Bool :=
  match sendingNow s with
  | none => false
  | some (bits, c) =>
    pullsIn bits (bitNow s c) && decide (Config.bitPeriod / 2 ≤ since s c.reading % Config.bitPeriod)

/-- SEND_FAULT: a 1 read back where the part pulls the line low (R53). DESIGN CHOICE (log entry 33): the manual does not say when the
line that read 1 had risen; once released by the part it is as the other parties leave it, and its line-free count begins at 0
at the moment SEND_FAULT is taken. -/
def failSend (s : State) : State :=
  if faultCanCome s = false then s
  else
    yieldStandby
      (followLine (lineLevel s)
        { s with tl := { s.tl with
            sendState := .idle, receiver := .awaitHigh, capture := none, outgoing := none,
            counts := { s.tl.counts with sendFaults := satSucc top16 s.tl.counts.sendFaults } } })

end Sys2Proof.Machine
end

