-- ==== Sys2Proof/Machine/TimeBase.lean ====
section
/-! DEFINITION. The Time Base: the discipline at an accepted mark, steps, the clock state, the pending-date slot, the seconds
pulse, the station second boundary (chapter 1). -/

namespace Sys2Proof.Machine

/-! ### Trim and slew (R3, R4) -/

/-- The effective trim D_eff = D + 100 S (R4). -/
def TimeBase.effTrim (c : TimeBase) : Int := c.trim + 100 * c.slew

/-- A trim written: clamped to -200,000..+200,000 (R4). -/
def clampTrim (d : Int) : Int := clampInt (-200000) 200000 d

/-- A slew written: clamped to -500..+500 (R4). -/
def clampSlew (x : Int) : Int := clampInt (-500) 500 x

/-- One oscillator period's trim accumulator and the ticks it delivers (R3). -/
def accumulate (acc effTrim : Int) : Int × Nat :=
  if Config.accRange ≤ acc + effTrim then (acc + effTrim - Config.accRange, 2)
  else if acc + effTrim ≤ -Config.accRange then (acc + effTrim + Config.accRange, 0)
  else (acc + effTrim, 1)

/-! ### The discipline history (R5) -/

/-- The history cleared completely (R5). -/
def TimeBase.clearHistory (c : TimeBase) : TimeBase :=
  { c with prevMark := none, window := [], acqCount := 0, lockCount := 0, candidate := none }

/-- What entry to HOLDOVER or FREE clears: previous-mark record, step candidate, uncertainty window (R5, R16). -/
def TimeBase.clearOnSilence (c : TimeBase) : TimeBase := { c with prevMark := none, window := [], candidate := none, slew := 0 }

/-- A value joins the uncertainty window; the oldest leaves when it already holds 8 (R9). -/
def joinWindow (w : List Nat) (u : Nat) : List Nat := if w.length < 8 then w ++ [u] else w.drop 1 ++ [u]

/-- The largest value of the window (R9). -/
def windowMax (w : List Nat) : Nat := w.foldl max 0

/-! ### Changes of clock state (R14, R161) -/

/-- The clock state becomes `x`. A change posts CLOCK_STATE, and outside RETAIN the shift's worst grade takes the new grade
when that is poorer (R14, R161). Outside HOLDOVER no growth is under way (R19). -/
def enterState (x : ClockState) (s : State) : State :=
  if s.clk.state = x then s
  else
    let g := if x = .holdover then some (intervalFrom s (s.settings.time.growthPeriod * Config.second)) else none
    let s : State := { s with clk := { s.clk with state := x, growth := g } }
    post .clockState (if working s then judgeWorst s else s)

/-- Entry to HOLDOVER, or to FREE when U is already 65,535 (R16). -/
def enterHoldover (s : State) : State :=
  let x := if Config.uTop ≤ reportedU s then ClockState.free else ClockState.holdover
  enterState x { s with clk := s.clk.clearOnSilence }

/-- In UNSET the stage becomes FREE where R16 would give HOLDOVER, with the same clearing (R18). -/
def stageToFree (s : State) : State := { s with clk := { s.clk.clearOnSilence with stage := .free } }

/-- The marks have stopped: by the mark silence timer (R16), or by RETAIN entry (R26). -/
def marksStopped (s : State) : State :=
  match s.clk.state with
  | .acquiring => enterHoldover s
  | .tracking => enterHoldover s
  | .locked => enterHoldover s
  | .unset => stageToFree s
  | .free => s
  | .holdover => s

def silenceDue (s : State) : Bool := !s.supply.stopped && reached s s.clk.silence Config.silence

/-- MARK_SILENCE_EXPIRY (R16, R18). -/
def expireSilence (s : State) : State :=
  if silenceDue s = false then s else marksStopped { s with clk := { s.clk with silence := none } }

def growthDue (s : State) : Bool :=
  !s.supply.stopped && decide (s.clk.state = .holdover) && ended s s.clk.growth

/-- HOLDOVER_GROWTH: U grows by 1 µs, and at 65,535 the state becomes FREE; the next interval takes the G in force (R19). -/
def growHoldover (s : State) : State :=
  if growthDue s = false then s
  else
    let s : State :=
      { s with clk := { s.clk with
          u := s.clk.u + 1, growth := some (intervalFrom s (s.settings.time.growthPeriod * Config.second)) } }
    if Config.uTop ≤ s.clk.u then enterState .free { s with clk := { s.clk.clearOnSilence with u := Config.uTop } } else s

/-- A change of selected source reported to the Time Base (R17). -/
def sourceChanged (s : State) : State :=
  let s : State := { s with clk := s.clk.clearHistory }
  match s.clk.state with
  | .tracking => enterState .acquiring s
  | .locked => enterState .acquiring s
  | .unset => if s.clk.stage = .tracking then { s with clk := { s.clk with stage := .acquiring } } else s
  | _ => s

/-! ### The effects common to all steps (R10) -/

/-- A step's epoch (R10). -/
def raiseEpoch (s : State) : State := { s with clk := { s.clk with epoch := s.clk.epoch + 1 } }

/-- The common effects of a step, once station time, the epoch and the clock stand as they do after it (R10): the TIME_STEP
entry, the notice, the request for the time record. -/
def recordStep (size : Option StepSize) (first : Bool) (source : StepSource) (s : State) : State :=
  request .time (post .timeStep (makeEntry (.timeStep size first source) (stampNow s) s))

/-- A step at a mark is noted with the edge, the pattern and the telegram in progress, whose marks it discards, and its reading is
kept for a line mark whose instant lies before it (R34). -/
def noteStep (s : State) : State :=
  { s with
    mq := { s.mq with
      edge := s.mq.edge.map fun x => { x with stepped := true }
      lastStep := some (now s)
      pattern := s.mq.pattern.map fun x => { x with stepped := true } }
    tl := { s.tl with capture := s.tl.capture.map fun x => { x with stepped := true } } }

/-! ### The pending-date slot (R20 to R22) -/

def Setters.empty : Setters := { a := false, b := false, c := false, line := false }

def Setters.has (x : Setters) : Port → Bool
  | .a => x.a
  | .b => x.b
  | .c => x.c

/-- A setter: a port, or the line (R20, R21). -/
inductive Setter
  | port (p : Port)
  | line
deriving DecidableEq, Repr

def Setters.add (x : Setters) : Setter → Setters
  | .port .a => { x with a := true }
  | .port .b => { x with b := true }
  | .port .c => { x with c := true }
  | .line => { x with line := true }

/-- What an offered date makes of the slot (R20): the slot after, and whether the date conflicts. -/
def offerDate (slot : Option PendingDate) (day : BitVec 16) (second : Nat) (who : Setter) : Option PendingDate × Bool :=
  let mine : PendingDate := { day := day, second := second, setters := Setters.empty.add who }
  match slot with
  | none => (some mine, false)
  | some d =>
    if d.day = day ∧ d.second = second then (some { d with setters := d.setters.add who }, false)
    else if d.setters = Setters.empty.add who then (some mine, false)
    else (none, true)

/-- A date offered to the slot; DATE_CONFLICT goes to every port of the old setter set, and to the offering port (R20, R21). -/
def offerToSlot (day : BitVec 16) (second : Nat) (who : Setter) (s : State) : State :=
  let t : State := { s with clk := { s.clk with slot := (offerDate s.clk.slot day second who).1 } }
  if (offerDate s.clk.slot day second who).2 then
    let told := ((s.clk.slot.map fun d => d.setters).getD Setters.empty).add who
    postWhere told.has .dateConflict t
  else t

/-- The step size of a date step: the difference of the two dates in seconds, saturating (R22). -/
def dateStepSize (day : BitVec 16) (second : Nat) (shown : StationTime) : StepSize :=
  { seconds := clampInt (-2147483647) 2147483647
      (dayDifference day shown.day * Config.day + ((second : Int) - shown.second)), micros := 0 }

/-- The first date: the clock leaves UNSET for its discipline stage (R18, R22). -/
def leaveUnset (s : State) : State :=
  match s.clk.stage with
  | .free => enterState .free s
  | .acquiring => enterState .acquiring s
  | .tracking => enterState .tracking { s with clk := { s.clk with lockCount := 0 } }

/-- The last tick of the second that ended at a boundary (R158). -/
def lastTickBefore (t : StationTime) : StationTime :=
  { day := (priorSecond t.day t.second).1, second := (priorSecond t.day t.second).2, fraction := Config.second - 1 }

/-- A date step: the slot's date takes the place of the one shown (R10, R22). -/
def dateStep (d : PendingDate) (s : State) : State :=
  let shown := s.clk.time
  let first := decide (s.clk.state = .unset)
  let t := raiseEpoch
    { s with clk := { s.clk with
        time := { shown with day := d.day, second := d.second }, prevMark := none, candidate := none } }
  if first then leaveUnset (recordStep none true .date t)
  else reportStep (lastTickBefore shown) t.clk.time (recordStep (some (dateStepSize d.day d.second shown)) false .date t)

/-- The date in the slot is applied at a station second boundary, and the slot emptied (R22). -/
def applyDate (s : State) : State :=
  match s.clk.slot with
  | none => s
  | some d =>
    let s : State := { s with clk := { s.clk with slot := none } }
    if d.day = s.clk.time.day ∧ d.second = s.clk.time.second then
      (if s.clk.state = .unset then leaveUnset s else s)
    else dateStep d s

/-! ### The seconds pulse and the station second boundary (R1, R23) -/

/-- The seconds pulse at a boundary (R23): none while one runs or at grade E. -/
def startPulse (s : State) : State :=
  if s.clk.secOut.isSome ∨ gradeNow s = .e then s
  else { s with clk := { s.clk with secOut := some (intervalFrom s (s.settings.time.pulseWidth * Config.milli)) } }

/-- A station second boundary taken by its receivers (R1): the pending date, the seconds pulse, the Time Line Controller,
the Shift Controller. In RETAIN none of them acts (R22, R23, R61, R178). -/
def takeBoundary (s : State) : State :=
  if working s = false then s else checkBoundary (boundaryLine (startPulse (applyDate s)))

/-- STATION_SECOND_BOUNDARY: an issued boundary is taken (R1). -/
def stationBoundary (s : State) : State :=
  if s.clk.boundaries = 0 then s
  else takeBoundary { s with clk := { s.clk with boundaries := s.clk.boundaries - 1 } }

def pulseDue (s : State) : Bool := !s.supply.stopped && ended s s.clk.secOut

/-- SEC_OUT_PULSE_END (R23). -/
def endPulse (s : State) : State := if pulseDue s = false then s else { s with clk := { s.clk with secOut := none } }

/-! ### Discipline at an accepted mark (R6 to R9, R11, R12, R15) -/

/-- A mark as the Mark Qualifier hands it over (R34): `n` is absent for an acquisition mark. -/
structure HandedMark where
  fraction : Nat
  source : Source
  n : Option Nat
deriving DecidableEq, Repr

/-- The phase error (R6). -/
def phaseError (f : Nat) : Int := if f < 5000000 then f else (f : Int) - 10000000

/-- The state whose moves a mark makes: in UNSET the discipline stage stands for it (R18). -/
def disciplineState (c : TimeBase) : ClockState :=
  if c.state = .unset then
    match c.stage with
    | .free => .free
    | .acquiring => .acquiring
    | .tracking => .tracking
  else c.state

/-- The clock state of a mark's move, or the stage of one in UNSET, which posts nothing (R15, R18). -/
def moveTo (x : ClockState) (s : State) : State :=
  if s.clk.state = .unset then
    match x with
    | .tracking => { s with clk := { s.clk with stage := .tracking } }
    | .locked => { s with clk := { s.clk with stage := .tracking } }
    | .acquiring => { s with clk := { s.clk with stage := .acquiring } }
    | _ => { s with clk := { s.clk with stage := .free } }
  else enterState x s

/-- A mark is an acquisition mark when it is handed as one, or comes in FREE or HOLDOVER (R6, R15). -/
def acquires (m : HandedMark) (c : TimeBase) : Bool :=
  m.n.isNone || decide (disciplineState c = .free ∨ disciplineState c = .holdover)

/-- The trim after a mark (R7). -/
def trimAfter (m : HandedMark) (kf : Nat) (c : TimeBase) : Int :=
  match m.n, c.prevMark with
  | some 1, some prev =>
    if prev.trimUsable then
      clampTrim (c.trim - Int.tdiv ((phaseError m.fraction - prev.p - prev.s) * 100) (2 ^ kf))
    else c.trim
  | _, _ => c.trim

/-- The slew that a mark taken by slew sets (R8). -/
def slewAfter (t : TimeSettings) (p : Int) : Int :=
  if p.natAbs ≤ t.stepLimit then clampSlew (-(Int.tdiv p (2 ^ t.kp))) else if 0 < p then -500 else 500

/-- A mark goes to step confirmation: its phase error exceeds the step limit and steps are allowed (R8). -/
def confirms (t : TimeSettings) (p : Int) : Bool := decide (t.stepLimit < p.natAbs) && t.stepsAllowed

/-- U_mark (R9): |P| / 10 rounded up, from 1 to 65,535. -/
def markU (p : Int) : Nat := clampNat 1 Config.uTop ((p.natAbs + 9) / 10)

/-- The candidate after a mark in confirmation, and whether the mark takes the step (R11). -/
def confirm (c : Option Candidate) (p : Int) : Option Candidate × Bool :=
  match c with
  | none => (some { p := p, agree := 0 }, false)
  | some x =>
    if (p - x.p).natAbs ≤ 20 then (if x.agree = 0 then (some { x with agree := 1 }, false) else (some x, true))
    else (some { p := p, agree := 0 }, false)

/-- The uncertainty value of a mark joins the window, and U becomes the largest (R9). -/
def TimeBase.takeU (c : TimeBase) (u : Nat) : TimeBase :=
  { c with window := joinWindow c.window u, u := windowMax (joinWindow c.window u) }

/-- The step at a mark (R12): station time moves by -P, the history is cleared, TRACKING or ACQUIRING goes on from here,
and the effects of R10 and R1 follow. -/
def stepAtMark (m : HandedMark) (p : Int) (s : State) : State :=
  let before := s.clk.time
  let after := if 0 < p then before.retreat p.toNat else before.advance (-p).toNat
  let crosses := decide (p < 0) && before.wraps (-p).toNat
  let c := { s.clk with time := after, slew := 0 }.clearHistory.takeU 1
  let s := raiseEpoch (noteStep { s with clk := { c with silence := some (now s) } })
  let s := if disciplineState s.clk = .acquiring then s else moveTo .tracking s
  let source := if m.source = .fibre then StepSource.fibre else StepSource.line
  let size : StepSize := { seconds := 0, micros := Int.tdiv (-p) 10 }
  let s := reportStep before after (recordStep (some size) false source s)
  if crosses then takeBoundary s else s

/-- The state moves of an in-window mark taken by slew (R15). -/
def slewMoves (m : HandedMark) (p : Int) (s : State) : State :=
  let lim := s.settings.time.lockLimit
  match disciplineState s.clk with
  | .acquiring =>
    if 2 ≤ s.clk.acqCount + 1 then moveTo .tracking { s with clk := { s.clk with acqCount := 2, lockCount := 0 } }
    else { s with clk := { s.clk with acqCount := s.clk.acqCount + 1 } }
  | .tracking =>
    if m.source = .fibre ∧ p.natAbs ≤ lim ∧ s.clk.state ≠ .unset then
      if 8 ≤ s.clk.lockCount + 1 then moveTo .locked { s with clk := { s.clk with lockCount := 8 } }
      else { s with clk := { s.clk with lockCount := s.clk.lockCount + 1 } }
    else { s with clk := { s.clk with lockCount := 0 } }
  | .locked => if 2 * lim < p.natAbs then moveTo .tracking { s with clk := { s.clk with lockCount := 0 } } else s
  | _ => s

/-- The state moves of a mark that takes no step (R15): `slewed` says that it was taken by slew. -/
def markMoves (m : HandedMark) (acquisition slewed : Bool) (p : Int) (s : State) : State :=
  if acquisition then moveTo .acquiring { s with clk := { s.clk with acqCount := 0 } }
  else if slewed then slewMoves m p s
  else s

/-- An accepted mark that takes no step: corrections, uncertainty, previous-mark record, silence timer, state (R6 to R9,
R11, R15, R16). -/
def markWithoutStep (m : HandedMark) (acquisition slewed : Bool) (trim : Int) (cand : Option Candidate) (s : State) : State :=
  let p := phaseError m.fraction
  let slew := if slewed then slewAfter s.settings.time p else 0
  let c :=
    { s.clk with
      trim := trim, slew := slew, candidate := cand, silence := some (now s),
      prevMark := some { p := p, s := slew, source := m.source, trimUsable := slewed } }.takeU (markU p)
  markMoves m acquisition slewed p { s with clk := c }

/-- An accepted mark, processed whole (section 1.4). -/
def processMark (m : HandedMark) (s : State) : State :=
  let p := phaseError m.fraction
  let acquisition := acquires m s.clk
  let s : State := if acquisition then { s with clk := s.clk.clearHistory } else s
  let trim := trimAfter m s.settings.time.kf s.clk
  if confirms s.settings.time p then
    let verdict := confirm s.clk.candidate p
    if verdict.2 then stepAtMark m p { s with clk := { s.clk with trim := trim } }
    else markWithoutStep m acquisition false trim verdict.1 s
  else markWithoutStep m acquisition true trim none s

/-! ### Commands of the Time Base (R20, R24, R25) -/

/-- READ CLOCK (R24). -/
def clockSample (s : State) : ClockSample :=
  { stamp := s.clk.time.stamp, epoch := s.clk.epoch, state := s.clk.state, grade := gradeNow s, u := reportedU s,
    trim := s.clk.trim, slew := s.clk.slew, source := s.mq.selected,
    stage := if s.clk.state = .unset then some s.clk.stage else none,
    acqCount := s.clk.acqCount, lockCount := s.clk.lockCount, candidate := s.clk.candidate, slot := s.clk.slot,
    elapsedSeconds := s.clk.elapsedSeconds }

/-- SET CLOCK (R25). -/
def setClock (p : Port) (args : List Byte) (s : State) : Reply :=
  let kp := argNumber args 0 1
  let kf := argNumber args 1 1
  let limit := argNumber args 2 4
  let lock := argNumber args 6 2
  let growth := argNumber args 9 2
  let width := argNumber args 11 2
  match yesNoOf (argNumber args 8 1) with
  | none => refuse .badArgument s
  | some steps =>
    unlessLocked p .time
      (fun s =>
        { state := { s with
            settings := { s.settings with time := { s.settings.time with
              kp := clampNat 1 6 kp, kf := clampNat 0 5 kf, stepLimit := clampNat 1000 5000000 limit,
              lockLimit := clampNat 10 10000 lock, stepsAllowed := steps, growthPeriod := clampNat 1 3600 growth,
              pulseWidth := clampNat 1 500 width } }
            clk := { s.clk with candidate := if steps then s.clk.candidate else none } }
          status := clampedStatus
            (outside 1 6 kp || outside 0 5 kf || outside 1000 5000000 limit || outside 10 10000 lock
              || outside 1 3600 growth || outside 1 500 width) })
      s

/-- SET DATE (R20). -/
def setDate (p : Port) (args : List Byte) (s : State) : Reply :=
  let day := BitVec.ofNat 16 (argNumber args 0 2)
  let second := argNumber args 2 3
  if Config.day ≤ second then refuse .badArgument s
  else
    { state := offerToSlot day second (.port p) s
      status := if (offerDate s.clk.slot day second (.port p)).2 then .conflict else .done }

/-! ### Supply loss and the starts (R26, R28, R29) -/

/-- RETAIN entry in the Time Base (R26). -/
def retainClock (s : State) : State :=
  let s := marksStopped s
  { s with clk := { s.clk with slew := 0, slot := none, secOut := none } }

/-- The warm start in the Time Base (R28). -/
def warmClock (s : State) : State :=
  { s with clk := { s.clk.clearHistory with slew := 0, slot := none, silence := none, secOut := none } }

end Sys2Proof.Machine
end

