-- ==== Sys2Proof/Machine/MarkQualifier.lean ====
section
/-! DEFINITION. The Mark Qualifier: the pattern recogniser, the judging of marks, the fault counter, the choice of source
(chapter 2). -/

namespace Sys2Proof.Machine

/-! ### The selected source (R38, R39) -/

/-- The source that the state of the Mark Qualifier selects (R38). -/
def selectable (s : State) : Source :=
  if s.mq.faulted = false ∧ s.mq.fibrePresence.isSome then .fibre
  else if s.settings.line.lineMarks = true ∧ s.mq.peerPresence.isSome then .line
  else .noSource

/-- The selection evaluated again (R38), with the effects of a change in the order of R39. -/
def evaluateSource (s : State) : State :=
  if selectable s = s.mq.selected then s
  else
    let t := sourceChanged { s with mq := { s.mq with selected := selectable s } }
    { t with mq := { t.mq with
        firstAfterChange := true, lineRef := if s.mq.selected = .line then none else t.mq.lineRef } }

def fibrePresenceDue (s : State) : Bool := !s.supply.stopped && reached s s.mq.fibrePresence Config.silence

/-- FIBRE_PRESENCE_EXPIRY (R38). -/
def expireFibrePresence (s : State) : State :=
  if fibrePresenceDue s = false then s else evaluateSource { s with mq := { s.mq with fibrePresence := none } }

def peerPresenceDue (s : State) : Bool := !s.supply.stopped && reached s s.mq.peerPresence Config.silence

/-- PEER_PRESENCE_EXPIRY (R38). -/
def expirePeerPresence (s : State) : State :=
  if peerPresenceDue s = false then s else evaluateSource { s with mq := { s.mq with peerPresence := none } }

/-! ### The mark fault counter (R35) -/

/-- A stray or malformed pattern adds 1; past 31 the fibre is FAULTED, SOURCE_FAULT is posted, the recogniser is suspended
and the source evaluated again (R35). -/
def addFault (s : State) : State :=
  if s.mq.faultCounter + 1 ≤ 31 then { s with mq := { s.mq with faultCounter := s.mq.faultCounter + 1 } }
  else
    evaluateSource (post .sourceFault
      { s with mq := { s.mq with
          faultCounter := 32, faulted := true, recogniser := .suspended, pattern := none, streak := [] } })

/-! ### The pattern recogniser (R30, R31) -/

/-- The other level. -/
def flipLevel : Level → Level
  | .low => .high
  | .high => .low

/-- The light as the recogniser takes it: a change that may still be a glitch has not come (R30). -/
def fibreLevel (s : State) : Level := if s.mq.edge.isSome then flipLevel s.pins.fibre else s.pins.fibre

/-- WAIT_LOW passes to WAIT_RISE while the line is low (R30). -/
def settleRecogniser (s : State) : State :=
  if s.mq.recogniser = .waitLow ∧ fibreLevel s = .low then { s with mq := { s.mq with recogniser := .waitRise } } else s

/-- A malformed pattern is discarded and counted (R31); a low line takes WAIT_LOW at once to WAIT_RISE. -/
def discardPattern (s : State) : State :=
  settleRecogniser
    (addFault
      { s with mq := { s.mq with
          recogniser := .waitLow, pattern := none,
          totals := { s.mq.totals with malformed := satSucc top32 s.mq.totals.malformed } } })

/-- No change of level that may be a phase edge lies before `length` ticks from `start`: what falls due then does not wait to
learn whether one is a glitch (R30). -/
def edgeClear (s : State) (start : Reading) (length : Nat) : Bool :=
  match s.mq.edge with
  | none => true
  | some e => decide (length ≤ elapsedBetween start e.reading)

/-- The pattern is complete: the second high has lasted 200 µs, within 2 ms of the pattern start (R30). -/
def completeDue (s : State) : Bool :=
  match s.mq.recogniser, s.mq.pattern with
  | .secondHigh, some x =>
    working s && decide (Config.patternLevel ≤ since s s.mq.phaseStart)
      && decide (elapsedBetween x.start s.mq.phaseStart + Config.patternLevel ≤ Config.patternLimit)
      && edgeClear s s.mq.phaseStart Config.patternLevel
  | _, _ => false

/-- The pattern is not complete 2 ms after its start (R31). -/
def timeoutDue (s : State) : Bool :=
  match s.mq.pattern with
  | none => false
  | some x =>
    working s && decide (Config.patternLimit ≤ since s x.start) && edgeClear s x.start Config.patternLimit
      && !completeDue s

/-- PATTERN_TIMEOUT (R31). -/
def expirePattern (s : State) : State := if timeoutDue s then discardPattern s else s

/-! ### Judging a mark (R32, R33) -/

/-- The verdict on a mark against its reference (R32). -/
inductive Verdict
  | acquisition
  | inWindow (n : Nat)
  | stray
deriving DecidableEq, Repr

/-- The distance of two naturals. -/
def distance (x y : Nat) : Nat := if x ≤ y then y - x else x - y

/-- The whole number of seconds 1..8 that an elapsed time lies within `tolerance` of (R32, R33). -/
def wholeSeconds (d tolerance : Nat) : Option Nat :=
  [1, 2, 3, 4, 5, 6, 7, 8].find? fun n => decide (distance d (n * Config.second) ≤ tolerance)

/-- A mark at an instant judged against the reference of its source with the window W (R32). -/
def judge (ref : Option Reading) (instant : Reading) (w : Nat) : Verdict :=
  match ref with
  | none => .acquisition
  | some r =>
    let d := elapsedBetween r instant
    if 8 * Config.second + w < d then .acquisition
    else
      match wholeSeconds d w with
      | some n => .inWindow n
      | none => .stray

/-- A stray lies a whole number of seconds, within 20 tbc, after an instant (R33). -/
def follows (instant earlier : Reading) : Bool := (wholeSeconds (elapsedBetween earlier instant) 20).isSome

/-- The streak after a stray, and whether the stray completes it (R33). -/
def streakAfter (streak : List Reading) (instant : Reading) : List Reading × Bool :=
  match streak with
  | [] => ([instant], false)
  | [x] => if follows instant x then ([x, instant], false) else ([instant], false)
  | x :: y :: _ => if follows instant x && follows instant y then ([], true) else ([instant], false)

/-! ### Handing over (R34) -/

/-- The mark handed to the Time Base: as an acquisition mark when it was accepted as one or the first-after-change flag is
set, which is then cleared (R34). -/
def handMark (fraction : Nat) (source : Source) (n : Option Nat) (s : State) : State :=
  let n := if s.mq.firstAfterChange then none else n
  processMark { fraction := fraction, source := source, n := n } { s with mq := { s.mq with firstAfterChange := false } }

/-- An accepted fibre mark: reference, total, counter, streak, presence, source, hand-over (R32, R35, R38). -/
def acceptFibre (x : Pattern) (n : Option Nat) (s : State) : State :=
  handMark x.fraction .fibre n
    (evaluateSource
      { s with mq := { s.mq with
          fibreRef := some x.start, faultCounter := s.mq.faultCounter - 1, streak := [], fibrePresence := some (now s),
          totals := { s.mq.totals with fibreAccepted := satSucc top32 s.mq.totals.fibreAccepted } } })

/-- A fibre stray (R32, R33, R35). -/
def fibreStray (x : Pattern) (s : State) : State :=
  if (streakAfter s.mq.streak x.start).2 then acceptFibre x none s
  else
    addFault
      { s with mq := { s.mq with
          streak := (streakAfter s.mq.streak x.start).1,
          totals := { s.mq.totals with fibreStrays := satSucc top32 s.mq.totals.fibreStrays } } }

/-- A fibre mark judged (R32); one that a step at another mark overtook is discarded (R34). -/
def judgeFibre (x : Pattern) (s : State) : State :=
  if x.stepped then s
  else
    match judge s.mq.fibreRef x.start s.settings.time.markWindow with
    | .acquisition => acceptFibre x none s
    | .inWindow n => acceptFibre x (some n) s
    | .stray => fibreStray x s

/-- PATTERN_COMPLETE (R30, R32): the recogniser waits for the high to end, and the mark is judged. -/
def completePattern (s : State) : State :=
  match s.mq.pattern with
  | none => s
  | some x =>
    if completeDue s = false then s
    else judgeFibre x { s with mq := { s.mq with recogniser := .waitLow, pattern := none } }

/-- A phase edge to a level, dated at the change of level itself, as the recogniser takes it (R30, R31). -/
def phaseEdge (e : FibreEdge) (level : Level) (s : State) : State :=
  let long := decide (Config.patternLevel ≤ elapsedBetween s.mq.phaseStart e.reading)
  match s.mq.recogniser, level with
  | .waitLow, .low => { s with mq := { s.mq with recogniser := .waitRise } }
  | .waitRise, .high =>
    { s with mq := { s.mq with
        recogniser := .firstHigh, phaseStart := e.reading,
        pattern := some { start := e.reading, fraction := e.fraction, stepped := e.stepped } } }
  | .firstHigh, .low =>
    if long then { s with mq := { s.mq with recogniser := .low, phaseStart := e.reading } } else discardPattern s
  | .low, .high =>
    if long then { s with mq := { s.mq with recogniser := .secondHigh, phaseStart := e.reading } } else discardPattern s
  | .secondHigh, .low => discardPattern s
  | _, _ => s

/-- What the recogniser's own timings have made due is taken before a later edge, so that a high ended at its 200 µs is complete
and a pattern past its 2 ms is malformed (R30, R31). -/
def catchUp (s : State) : State :=
  let s := settleRecogniser s
  if completeDue s then completePattern s else if timeoutDue s then discardPattern s else s

/-- A change of level has stood for 50 µs: it is no glitch (R30). -/
def edgeDue (s : State) : Bool :=
  match s.mq.edge with
  | none => false
  | some e => working s && decide (Config.glitch ≤ since s e.reading)

/-- The change of level that has stood for 50 µs is taken as a phase edge (R30). -/
def standFibre (s : State) : State :=
  if edgeDue s = false then s
  else
    let s := catchUp s
    match s.mq.edge with
    | none => s
    | some e => phaseEdge e s.pins.fibre { s with mq := { s.mq with edge := none } }

/-- FIBRE_MARK takes a new level (R30): one that returns within 50 µs makes the change before it a glitch, which the phase around
it swallows; any other may be a phase edge, and is dated now (log entry 13). -/
def moveFibre (level : Level) (s : State) : State :=
  if s.pins.fibre = level then s
  else if working s = false then { s with pins := { s.pins with fibre := level } }
  else
    let s := catchUp (standFibre s)
    let e : Option FibreEdge :=
      if s.mq.edge.isSome then none
      else some { reading := now s, fraction := s.clk.time.fraction, stepped := false }
    { s with pins := { s.pins with fibre := level }, mq := { s.mq with edge := e } }

/-- FIBRE_PHASE_EDGE (R30). -/
def fibreEdge (change : FibreChange) (s : State) : State :=
  match change with
  | .moves level => moveFibre level s
  | .stands => standFibre s

/-! ### Line marks (R37) -/

/-- The instant of a line mark: the start edge less the line delay compensation (R37). -/
def lineInstant (c : StartCapture) (delay : Nat) : Reading :=
  (c.reading + Config.elapsedPeriod - delay * Config.micro) % Config.elapsedPeriod

/-- The fraction of a line mark: that of the start edge less ten times the compensation, modulo 10,000,000 (R34). -/
def lineFraction (c : StartCapture) (delay : Nat) : Nat :=
  (c.time.fraction + Config.second - delay * Config.micro) % Config.second

/-- An accepted line mark (R32, R34). -/
def acceptLine (c : StartCapture) (n : Option Nat) (s : State) : State :=
  let delay := s.settings.line.delay
  handMark (lineFraction c delay) .line n
    { s with mq := { s.mq with
        lineRef := some (lineInstant c delay),
        totals := { s.mq.totals with lineAccepted := satSucc top32 s.mq.totals.lineAccepted } } }

/-- A step at another mark was taken between a line mark's instant and now: after its start edge, or in the compensation
before it (R34). -/
def lineOvertaken (c : StartCapture) (s : State) : Bool :=
  c.stepped || (match s.mq.lastStep with
    | none => false
    | some r => decide (since s r < since s (lineInstant c s.settings.line.delay)))

/-- A line mark judged against the line reference (R32, R37); one that a step at another mark overtook is discarded (R34). -/
def judgeLine (c : StartCapture) (s : State) : State :=
  if lineOvertaken c s then s
  else
    match judge s.mq.lineRef (lineInstant c s.settings.line.delay) s.settings.time.markWindow with
    | .acquisition => acceptLine c none s
    | .inWindow n => acceptLine c (some n) s
    | .stray =>
      { s with mq := { s.mq with totals := { s.mq.totals with lineStrays := satSucc top32 s.mq.totals.lineStrays } } }

/-- A valid peer telegram reported to the Mark Qualifier (R37). -/
def peerMark (id : BitVec 3) (grade : Grade) (c : StartCapture) (s : State) : State :=
  if 2 < grade.rank then s
  else
    let s : State := { s with mq := { s.mq with wellGraded := some { id := id, grade := grade } } }
    if s.settings.line.lineMarks = false then s
    else
      let s := evaluateSource { s with mq := { s.mq with peerPresence := some (now s) } }
      if s.mq.selected = .line then judgeLine c s else s

/-! ### Commands of the Mark Qualifier (R36, R40 to R42) -/

/-- READ SOURCE (R40). -/
def sourceSample (s : State) : SourceSample :=
  { selected := s.mq.selected, firstAfterChange := s.mq.firstAfterChange, faultCounter := s.mq.faultCounter,
    faulted := s.mq.faulted, recogniser := s.mq.recogniser, fibreRef := s.mq.fibreRef.map (millisSince s),
    lineRef := s.mq.lineRef.map (millisSince s), streak := s.mq.streak.length,
    fibrePresence := s.mq.fibrePresence.isSome, peerPresence := s.mq.peerPresence.isSome,
    wellGraded := s.mq.wellGraded, lineMarks := s.settings.line.lineMarks, delay := s.settings.line.delay,
    window := s.settings.time.markWindow, totals := s.mq.totals }

/-- REARM SOURCE (R36). DESIGN CHOICE (log entry 38): a change of level made in SUSPENDED less than 50 µs before the command, not
yet known to be no glitch, is kept, and is a phase edge at its own date once it stands. -/
def rearmSource (s : State) : Reply :=
  let r := if s.mq.recogniser = .suspended then Recogniser.waitLow else s.mq.recogniser
  { state := evaluateSource { s with mq := { s.mq with faultCounter := 0, faulted := false, recogniser := r } }
    status := .done }

/-- SET MARK WINDOW (R41). -/
def setMarkWindow (p : Port) (args : List Byte) (s : State) : Reply :=
  let w := argNumber args 0 4
  unlessLocked p .time
    (fun s =>
      { state := { s with settings := { s.settings with time := { s.settings.time with
          markWindow := clampNat 100 50000 w } } }
        status := clampedStatus (outside 100 50000 w) })
    s

/-- SET LINE MARKS (R42): turning line marks off stops the peer presence timer; a change evaluates the source (R38). -/
def setLineMarks (p : Port) (args : List Byte) (s : State) : Reply :=
  let delay := argNumber args 1 2
  match yesNoOf (argNumber args 0 1) with
  | none => refuse .badArgument s
  | some enabled =>
    unlessLocked p .line
      (fun s =>
        let changed := decide (enabled ≠ s.settings.line.lineMarks)
        let s : State :=
          { s with
            settings := { s.settings with line := { s.settings.line with
              lineMarks := enabled, delay := clampNat 0 2000 delay } }
            mq := { s.mq with peerPresence := if enabled then s.mq.peerPresence else none } }
        { state := if changed then evaluateSource s else s, status := clampedStatus (outside 0 2000 delay) })
      s

/-! ### Supply loss (R43) -/

/-- RETAIN entry in the Mark Qualifier (R43); a change that may still be a glitch is given up with the pattern. -/
def retainMarks (s : State) : State :=
  { s with mq := { s.mq with
      recogniser := if s.mq.recogniser = .suspended then .suspended else .waitLow, edge := none, pattern := none,
      streak := [] } }

/-- The warm start in the Mark Qualifier (R43). -/
def warmMarks (s : State) : State := evaluateSource s

end Sys2Proof.Machine
end

