-- ==== Sys2Proof/Machine/TimeLine.lean ====
section
/-! DEFINITION. The receiving side of the Time Line Controller: edges, the judging of a telegram, the cross-check, line dates,
the commands of the line, supply loss (sections 3.2, 3.4 to 3.8). -/

namespace Sys2Proof.Machine

/-! ### Edges of the line (R45, R47) -/

/-- AWAIT_HIGH passes to IDLE while the line is high (R47). -/
def settleReceiver (s : State) : State :=
  if s.tl.receiver = .awaitHigh ∧ lineLevel s = .high then { s with tl := { s.tl with receiver := .idle } } else s

/-- The start capture of an edge now (R47). -/
def captureNow (s : State) : StartCapture :=
  { reading := now s, time := s.clk.time, epoch := s.clk.epoch, grade := gradeNow s, contested := false, stepped := false }

/-- START_EDGE: another party pulls TIME_LINE low. On an idle line that is a start edge: its capture is recorded and the receiver
goes to START (R45, R47). -/
def fallLine (s : State) : State :=
  if s.pins.timeLine = .low then s
  else if working s = false then { s with pins := { s.pins with timeLine := .low } }
  else
    let s := settleReceiver s
    let t := followLine (lineLevel s) { s with pins := { s.pins with timeLine := .low } }
    if s.tl.receiver = .idle then
      { t with tl := { t.tl with receiver := .start, capture := some (captureNow s), readBits := [] } }
    else t

/-- TIME_LINE_RISE: the other parties release TIME_LINE. Where the part does not pull it either it rises: the line-free count
begins at 0, and AWAIT_HIGH passes to IDLE (R45, R47). -/
def raiseLine (s : State) : State :=
  if s.pins.timeLine = .high then s
  else
    let t : State := { s with pins := { s.pins with timeLine := .high } }
    if working s = false then t else settleReceiver (followLine (lineLevel s) t)

/-- The middle of the start bit has come (R47). -/
def startBitRead (s : State) : Bool :=
  match s.tl.receiver, s.tl.capture with
  | .start, some c => working s && decide (Config.bitPeriod / 2 ≤ since s c.reading)
  | _, _ => false

/-- The start bit read low: the receiver goes to DATA (R47). -/
def settleStart (s : State) : State :=
  if startBitRead s = true ∧ lineLevel s = .low then { s with tl := { s.tl with receiver := .data } } else s

/-- The start bit reads high (R47). -/
def brokenStartDue (s : State) : Bool := startBitRead s && decide (lineLevel s = .high)

/-- BROKEN_START_BIT (R47). -/
def breakStart (s : State) : State :=
  if brokenStartDue s = false then s
  else
    { s with tl := { s.tl with
        receiver := .idle, capture := none,
        counts := { s.tl.counts with broken := satSucc top16 s.tl.counts.broken } } }

/-! ### The bits of a telegram (R45, R48, R51) -/

/-- A telegram is on the line, heard or the part's own: its start capture (R48, R51). -/
def readingNow (s : State) : Option StartCapture :=
  match s.tl.receiver with
  | .data => s.tl.capture
  | .own => s.tl.capture
  | _ => none

/-- The middle of the next bit period of that telegram has come, 50 µs after it began (R45, R48, R51). -/
def bitReadDue (s : State) : Bool :=
  match readingNow s with
  | none => false
  | some c =>
    decide (s.tl.readBits.length < 56)
      && decide ((s.tl.readBits.length + 1) * Config.bitPeriod + Config.bitPeriod / 2 ≤ since s c.reading)

/-- The next bit is the level of the line at the middle of its period (R45). -/
def readBit (s : State) : State :=
  if bitReadDue s then
    { s with tl := { s.tl with readBits := s.tl.readBits ++ [decide (lineLevel s = .high)] } }
  else s

/-! ### Judging a telegram (R46, R48) -/

/-- What a telegram says (R46). -/
structure Telegram where
  id : BitVec 3
  grade : Grade
  epochBits : BitVec 2
  day : BitVec 16
  second : Nat
deriving DecidableEq, Repr

/-- The seven bytes of 56 bits, the first byte first (R46). -/
def bytesOfBits (bits : List Bool) : List Nat :=
  (List.range 7).map fun k => numberOfBits ((bits.drop (8 * k)).take 8)

/-- A grade by its code (R46, R211). -/
def gradeOf (n : Nat) : Option Grade :=
  match n with
  | 1 => some .a
  | 2 => some .b
  | 3 => some .c
  | 4 => some .d
  | 5 => some .e
  | _ => none

/-- The second of day that 56 bits carry: bytes 3 to 5 (R46). -/
def secondOfBits (bits : List Bool) : Nat := numberOfBits ((bits.drop 24).take 24)

/-- The judgement of the bits read: the telegram when all 56 were read and they are valid (R48). -/
def judgeTelegram (bits : List Bool) : Option Telegram :=
  match gradeOf (numberOfBits ((bits.drop 3).take 3)) with
  | none => none
  | some grade =>
    if bits.length = 56 ∧ (bytesOfBits bits).sum % 256 = 0 ∧ secondOfBits bits < Config.day then
      some
        { id := BitVec.ofNat 3 (numberOfBits (bits.take 3)), grade := grade,
          epochBits := BitVec.ofNat 2 (numberOfBits ((bits.drop 6).take 2)),
          day := BitVec.ofNat 16 (numberOfBits ((bits.drop 8).take 16)), second := secondOfBits bits }
    else none

/-! ### The cross-check (R58) -/

/-- The compensated instant of a start edge (R58). -/
def compensated (c : StartCapture) (delay : Nat) : StationTime := c.time.retreat (delay * Config.micro)

/-- The offset of the compensated instant from its nearest own second boundary, in tbc (R58). -/
def edgeOffset (x : StationTime) : Int := phaseError x.fraction

/-- The own date at the nearest boundary: the instant's own second when it lies behind, the next when ahead (R58). -/
def nearestDate (x : StationTime) : BitVec 16 × Nat :=
  if x.fraction < 5000000 then (x.day, x.second) else nextSecond x.day x.second

/-- The edge disagrees: the offset over 10, truncated, exceeds the limit in µs (R58). -/
def edgeDisagrees (x : StationTime) (limit : Nat) : Bool := decide (limit < (Int.tdiv (edgeOffset x) 10).natAbs)

/-- Either comparison disagrees; a contested telegram is compared on its date alone (R58). -/
def disagrees (t : Telegram) (c : StartCapture) (s : State) : Bool :=
  let x := compensated c s.settings.line.delay
  (!c.contested && edgeDisagrees x s.settings.line.crossLimit) || decide (nearestDate x ≠ (t.day, t.second))

/-- A disagreement is counted, and posted when the last posting is absent or 60 s old (R58). -/
def countDisagreement (s : State) : State :=
  let t : State :=
    { s with tl := { s.tl with counts := { s.tl.counts with disagreements := satSucc top16 s.tl.counts.disagreements } } }
  let old := match s.tl.lastDisagree with
    | none => true
    | some r => decide (Config.disagreeSpacing ≤ since s r)
  if old then post .lineDisagree { t with tl := { t.tl with lastDisagree := some (now s) } } else t

/-- The cross-check of a peer telegram (R58): own grade A or B at the start edge, and no step since. -/
def crossCheck (t : Telegram) (c : StartCapture) (s : State) : State :=
  if 2 < c.grade.rank ∨ s.clk.epoch ≠ c.epoch then s
  else if disagrees t c s then countDisagreement s
  else s

/-! ### Line dates (R59) -/

/-- The date that a telegram gives the part's own next boundary (R59): one second on when that boundary lies half a second
or more after the start edge. -/
def lineDate (t : Telegram) (c : StartCapture) (s : State) : BitVec 16 × Nat :=
  if 5000000 ≤ since s c.reading + (Config.second - s.clk.time.fraction) then nextSecond t.day t.second
  else (t.day, t.second)

/-- A line date is offered (R59, the table): by the own grade at the start edge, the peer's grade, and at grade C a date other
than the one station time will show at its next boundary. DESIGN CHOICE (log entry 39): that one is the second that counting on
from station time gives; a date waiting in the pending-date slot is left out of it. -/
def offersDate (t : Telegram) (c : StartCapture) (s : State) : Bool :=
  match c.grade with
  | .a => false
  | .b => false
  | .c =>
    decide (t.grade.rank ≤ 2) && decide (lineDate t c s ≠ nextSecond s.clk.time.day s.clk.time.second)
  | .d => decide (t.grade.rank ≤ 3)
  | .e => decide (t.grade.rank ≤ 3)

/-- The offering of a line date (R59, R20, R21). -/
def offerLineDate (t : Telegram) (c : StartCapture) (s : State) : State :=
  if offersDate t c s then offerToSlot (lineDate t c s).1 (lineDate t c s).2 .line s else s

/-! ### A valid telegram (R49) -/

/-- The record, count and timer of a valid telegram (R49). -/
def recordTelegram (t : Telegram) (c : StartCapture) (s : State) : State :=
  { s with tl := { s.tl with
      lastValid := some
        { id := t.id, grade := t.grade, epochBits := t.epochBits, day := t.day, second := t.second,
          reading := c.reading, contested := c.contested }
      counts := { s.tl.counts with valid := satSucc top16 s.tl.counts.valid }
      silence := now s } }

/-- The own-id test of a valid telegram (R49). -/
def judgeSender (t : Telegram) (s : State) : State :=
  if t.id = s.settings.line.ownId then post .lineClash s
  else { s with tl := { s.tl with lastOther := some (now s) } }

/-- A contested telegram returns a sending STANDBY part to WAITING (R49, R55). -/
def yieldToPeer (c : StartCapture) (s : State) : State := if c.contested then yieldStandby s else s

/-- A peer telegram taken, its effects in the order of R49. -/
def takeTelegram (t : Telegram) (c : StartCapture) (s : State) : State :=
  yieldToPeer c
    (offerLineDate t c (crossCheck t c (peerMark t.id t.grade c (judgeSender t (recordTelegram t c s)))))

/-- A broken telegram is counted (R48). -/
def countBroken (s : State) : State :=
  { s with tl := { s.tl with counts := { s.tl.counts with broken := satSucc top16 s.tl.counts.broken } } }

/-- The end of bit period 56 of a telegram being received: its start capture (R48). -/
def telegramEnd (s : State) : Option StartCapture :=
  match s.tl.receiver, s.tl.capture with
  | .data, some c => if working s = true ∧ Config.telegramLength ≤ since s c.reading then some c else none
  | _, _ => none

/-- The receiver after a telegram was judged (R48). -/
def closeReception (s : State) : State :=
  { s with tl := { s.tl with receiver := .awaitHigh, capture := none, readBits := [] } }

/-- TELEGRAM_JUDGED (R48, R49), of the bits that were read from the line; with other bits it is not this telegram's. -/
def receiveTelegram (bits : List Bool) (s : State) : State :=
  match telegramEnd s with
  | none => s
  | some c =>
    if bits ≠ s.tl.readBits then s
    else
      match judgeTelegram bits with
      | none => countBroken (closeReception s)
      | some t => takeTelegram t c (closeReception s)

/-! ### Commands of the line (R56, R57, R60) -/

/-- The role given a part (R56): on a change to STANDBY the phase is WAITING. -/
def giveRole (role : Role) (s : State) : State :=
  { s with
    settings := { s.settings with line := { s.settings.line with role := role } }
    tl := { s.tl with
      phase := if role = .standby ∧ s.settings.line.role ≠ .standby then .waiting else s.tl.phase } }

/-- Another sender was heard no more than K elapsed seconds ago (R56). -/
def heardRecently (s : State) : Bool :=
  match s.tl.lastOther with
  | none => false
  | some r => decide (since s r ≤ s.settings.line.takeover * Config.second)

/-- SET LINE ROLE (R56). -/
def setLineRole (p : Port) (args : List Byte) (s : State) : Reply :=
  match roleOf (argNumber args 0 1) with
  | none => refuse .badArgument s
  | some role =>
    unlessLocked p .line
      (fun s =>
        if role = .listen ∧ heardRecently s = false then { state := giveRole .standby s, status := .doneClamped }
        else { state := giveRole role s, status := .done })
      s

/-- SET LINE (R57). -/
def setLine (p : Port) (args : List Byte) (s : State) : Reply :=
  let id := argNumber args 0 1
  let k := argNumber args 1 1
  let limit := argNumber args 2 2
  if 7 < id then refuse .badArgument s
  else
    unlessLocked p .line
      (fun s =>
        { state := { s with settings := { s.settings with line := { s.settings.line with
            ownId := BitVec.ofNat 3 id, takeover := clampNat 2 15 k, crossLimit := clampNat 10 10000 limit } } }
          status := clampedStatus (outside 2 15 k || outside 10 10000 limit) })
      s

/-- What READ LINE samples (R60). -/
def lineSample (s : State) : LineSample :=
  { role := s.settings.line.role, phase := s.tl.phase, ownId := s.settings.line.ownId,
    takeover := s.settings.line.takeover, crossLimit := s.settings.line.crossLimit, sendState := s.tl.sendState,
    receiver := s.tl.receiver, lineFree := lineIsFree s,
    lastValid := s.tl.lastValid.map fun t => { telegram := t, age := millisSince s t.reading },
    lastOther := s.tl.lastOther.map (millisSince s), silence := min top16 (lineSilence s / Config.second),
    lastDisagree := s.tl.lastDisagree.map fun r => min top16 (since s r / Config.second), counts := s.tl.counts }

def LineCounts.zero : LineCounts := ⟨0, 0, 0, 0, 0, 0, 0, 0, 0⟩

/-- READ LINE (R60): the counts are cleared after they are sampled. -/
def readLine (args : List Byte) (s : State) : Reply :=
  match yesNoOf (argNumber args 0 1) with
  | none => refuse .badArgument s
  | some clear =>
    { state := if clear then { s with tl := { s.tl with counts := .zero } } else s
      status := .done
      result := .line (lineSample s) }

/-! ### Supply loss (R61, R62) -/

/-- RETAIN entry in the Time Line Controller (R61): with no telegram going out the part pulls the line no more. -/
def retainLine (s : State) : State :=
  { s with tl := { s.tl with
      freeCount := 0, highSince := none, sendState := .idle, receiver := .awaitHigh, capture := none, outgoing := none,
      readBits := [] } }

/-- The warm start in the Time Line Controller (R62). -/
def warmLine (s : State) : State :=
  { s with tl := { s.tl with
      receiver := .awaitHigh, freeCount := 0, highSince := if lineLevel s = .high then some (now s) else none,
      silence := now s, phase := if s.settings.line.role = .standby then .waiting else s.tl.phase } }

end Sys2Proof.Machine
end

