-- ==== Sys2Proof/Machine/Inputs.lean ====
section
/-! DEFINITION. The Trip Input Unit: edges, qualifying, chatter, the settings of an input, supply loss (chapter 4). -/

namespace Sys2Proof.Machine

/-! ### Edges (R65 to R68) -/

/-- A capture of an edge now (R66). -/
def captureEdge (i : Fin 16) (s : State) : Capture :=
  { stamp := stampNow s, reading := now s, tq := (s.settings.inputs.inputs.get i).tq }

/-- The top of the chatter score (R71). -/
def chatterTop : Nat := 32

/-- An input whose score reached 32 is BLOCKED, with its entry and notice (R72). -/
def blockInput (i : Fin 16) (s : State) : State :=
  post .chatterBlock
    (makeEntry (.chatterBlock i (s.settings.inputs.inputs.get i).unit) (stampNow s)
      (s.withInput i { s.inputs.get i with state := .blocked, capture := none }))

/-- The input takes a score, and the state that goes with it below 32 (R67, R71, R72). -/
def scoreInput (i : Fin 16) (score : Nat) (below : InputState) (s : State) : State :=
  let t := s.withInput i { s.inputs.get i with score := score, capture := none, state := below }
  if chatterTop ≤ score then blockInput i t else t

/-- A leading edge taken by a watched input (R66, R68). -/
def takeLeading (i : Fin 16) (s : State) : State :=
  match (s.inputs.get i).state with
  | .idle => s.withInput i { s.inputs.get i with state := .qualifying, capture := some (captureEdge i s) }
  | .releasing => s.withInput i { s.inputs.get i with state := .active, capture := none }
  | _ => s

/-- A trailing edge taken by a watched input (R67, R68). -/
def takeTrailing (i : Fin 16) (s : State) : State :=
  match (s.inputs.get i).state with
  | .active => s.withInput i { s.inputs.get i with state := .releasing, capture := some (captureEdge i s) }
  | .qualifying => scoreInput i (satSucc chatterTop (s.inputs.get i).score) .idle s
  | _ => s

/-- TRIP_LEADING_EDGE: the line of input `i` becomes active (R65, R66, R68, R80). -/
def leadingEdge (i : Fin 16) (s : State) : State :=
  if inputActive s i then s
  else
    let t := moveTripLine s i true
    if working s then takeLeading i t else t

/-- TRIP_TRAILING_EDGE: the line of input `i` becomes inactive (R65, R67, R68, R80). -/
def trailingEdge (i : Fin 16) (s : State) : State :=
  if inputActive s i = false then s
  else
    let t := moveTripLine s i false
    if working s then takeTrailing i t else t

/-! ### Qualifying (R67 to R71) -/

/-- The captured Tq has elapsed since the captured edge (R67, R68). -/
def tqReached (s : State) (c : Capture) : Bool := decide (c.tq * Config.tenthMilli ≤ since s c.reading)

/-- The capture of input `i`, when its state is `x` and its Tq has elapsed (R67, R68). -/
def qualified (x : InputState) (i : Fin 16) (s : State) : Option Capture :=
  match (s.inputs.get i).capture with
  | none => none
  | some c => if working s = true ∧ (s.inputs.get i).state = x ∧ tqReached s c = true then some c else none

/-- A qualified assert is a fast repeat (R71). -/
def fastRepeat (s : State) (i : Fin 16) (c : Capture) : Bool :=
  match (s.inputs.get i).lastAssert with
  | none => false
  | some r => decide (elapsedBetween r c.reading < s.settings.inputs.chatter * Config.tenth)

/-- The score after a qualified assert (R71). -/
def scoreAfter (s : State) (i : Fin 16) (c : Capture) : Nat :=
  if fastRepeat s i c then satSucc chatterTop (s.inputs.get i).score else (s.inputs.get i).score - 1

/-- ASSERT_QUALIFIES (R67, R70 to R72): the TRIP_ASSERT entry first, then the chatter score. -/
def qualifyAssert (i : Fin 16) (s : State) : State :=
  match qualified .qualifying i s with
  | none => s
  | some c =>
    let score := scoreAfter s i c
    let t := makeAssert i c.stamp false s
    scoreInput i score .active (t.withInput i { t.inputs.get i with lastAssert := some c.reading })

/-- RELEASE_QUALIFIES (R68, R70). -/
def qualifyRelease (i : Fin 16) (s : State) : State :=
  match qualified .releasing i s with
  | none => s
  | some c =>
    let setting := s.settings.inputs.inputs.get i
    let t := if setting.logReleases then makeEntry (.tripRelease i setting.unit setting.code) c.stamp s else s
    t.withInput i { t.inputs.get i with state := .idle, capture := none }

/-! ### Commands (R73 to R79) -/

/-- ALLOW INPUT (R73). -/
def allowInput (args : List Byte) (s : State) : Reply :=
  match indexOf 16 (argNumber args 0 1) with
  | none => refuse .badArgument s
  | some i =>
    if (s.inputs.get i).state ≠ .blocked then refuse .notNow s
    else
      let x := s.inputs.get i
      { state :=
          if inputActive s i then
            makeAssert i (stampNow s) true
              (s.withInput i { x with state := .active, score := 0, lastAssert := some (now s) })
          else s.withInput i { x with state := .idle, score := 0 }
        status := .done }

/-- IDLE or ACTIVE by the level under the polarity in force (R75, R81). -/
def stateOfLevel (s : State) (i : Fin 16) : InputState := if inputActive s i then .active else .idle

/-- The effect of a change of enabled or polarity from the setting `old` to the one in force (R74, R75). -/
def applySetting (old : InputSetting) (i : Fin 16) (s : State) : State :=
  let x := s.inputs.get i
  let fresh := s.settings.inputs.inputs.get i
  match old.enabled, fresh.enabled with
  | true, false => s.withInput i { x with state := .disabled, capture := none }
  | false, true =>
    s.withInput i { state := stateOfLevel s i, capture := none, score := 0, lastAssert := none }
  | true, true =>
    if old.activeLow = fresh.activeLow ∨ x.state = .blocked then s
    else s.withInput i { x with state := stateOfLevel s i, capture := none }
  | false, false => s

/-- The settings that SET INPUT's arguments give, none when one is refused (R76). -/
def inputSettingOf (args : List Byte) : Option InputSetting :=
  match yesNoOf (argNumber args 1 1), yesNoOf (argNumber args 2 1), indexOf 9 (argNumber args 3 1),
      maskOf 6 (argNumber args 4 1), yesNoOf (argNumber args 6 1) with
  | some enabled, some activeLow, some unit, some code, some logReleases =>
    some
      { enabled := enabled, activeLow := activeLow, unit := unit, code := code,
        tq := clampNat 1 255 (argNumber args 5 1), logReleases := logReleases }
  | _, _, _, _, _ => none

/-- SET INPUT (R76). -/
def setInput (p : Port) (args : List Byte) (s : State) : Reply :=
  match indexOf 16 (argNumber args 0 1), inputSettingOf args with
  | some i, some setting =>
    unlessLocked p .inputs
      (fun s =>
        { state := applySetting (s.settings.inputs.inputs.get i) i
            { s with settings := { s.settings with inputs := { s.settings.inputs with
                inputs := s.settings.inputs.inputs.set i setting } } }
          status := clampedStatus (outside 1 255 (argNumber args 5 1)) })
      s
  | _, _ => refuse .badArgument s

/-- SET CHATTER INTERVAL (R77). -/
def setChatterInterval (p : Port) (args : List Byte) (s : State) : Reply :=
  let n := argNumber args 0 2
  unlessLocked p .inputs
    (fun s =>
      { state := { s with settings := { s.settings with inputs := { s.settings.inputs with chatter := clampNat 1 100 n } } }
        status := clampedStatus (outside 1 100 n) })
    s

/-- READ INPUTS (R78). -/
def levelsSample (s : State) : LevelsSample :=
  { tripIn := s.pins.tripIn, unitState := s.pins.unitState, stamp := stampNow s }

/-- What READ INPUT samples of input `i` (R79). -/
def inputSample (s : State) (i : Fin 16) : InputSample :=
  { setting := s.settings.inputs.inputs.get i, chatter := s.settings.inputs.chatter, state := (s.inputs.get i).state,
    active := inputActive s i, score := (s.inputs.get i).score,
    lastAssert := (s.inputs.get i).lastAssert.map fun r => min top16 (since s r / Config.tenth),
    capture := (s.inputs.get i).capture }

/-- READ INPUT (R79). -/
def readInput (args : List Byte) (s : State) : Reply :=
  match indexOf 16 (argNumber args 0 1) with
  | none => refuse .badArgument s
  | some i => { state := s, status := .done, result := .input (inputSample s i) }

/-! ### Supply loss (R80 to R82) -/

/-- RETAIN entry of one input (R80). -/
def TripInput.retain (x : TripInput) : TripInput :=
  match x.state with
  | .qualifying => { x with state := .idle, capture := none }
  | .releasing => { x with state := .active, capture := none }
  | _ => x

/-- RETAIN entry in the Trip Input Unit (R80). -/
def retainInputs (s : State) : State := { s with inputs := .ofFn fun i => (s.inputs.get i).retain }

/-- The warm start of one input: an enabled input that is not BLOCKED takes its state from its level (R81). -/
def warmInput (s : State) (i : Fin 16) : TripInput :=
  let x := s.inputs.get i
  if (s.settings.inputs.inputs.get i).enabled = true ∧ x.state ≠ .blocked then
    { x with state := stateOfLevel s i, capture := none }
  else x

/-- The warm start in the Trip Input Unit (R81). -/
def warmInputs (s : State) : State := { s with inputs := .ofFn (warmInput s) }

/-- An input after a cold start, by its setting and its level (R82). -/
def coldInput (s : State) (i : Fin 16) : TripInput :=
  { state := if (s.settings.inputs.inputs.get i).enabled then stateOfLevel s i else .disabled, capture := none, score := 0,
    lastAssert := none }

end Sys2Proof.Machine
end

