-- ==== Sys2Proof/Machine/Formats.lean ====
section
/-! DEFINITION. The bytes of answers: codes, stamps and the layouts of chapter 11. -/

namespace Sys2Proof

/-- The results whose length the manual states and whose layout it does not (section 11.9), READ STORE apart. -/
inductive OpenLayout
  | line
  | input
  | seek
  | units
  | shift
  | ports
  | notices
deriving DecidableEq, Repr

/-- The named choices for which the tables of R211 have no code. -/
inductive UncodedChoice
  | phase
  | sendState
  | receiver
  | inputState
  | supplyState
  | record
  | copy
  | loadOutcome
  | settingsOutcome
  | portState
deriving DecidableEq, Repr

/-- FREE VALUE (log entry 7): where the `n`th field of a result of unstated layout, counted from 0 in the order of the result's
rule, comes among the fields before it. -/
opaque Config.openOrder : OpenLayout → Nat → Nat

/-- FREE VALUE (log entry 7): how many bits 0 come before the `n`th field in that order. -/
opaque Config.openGap : OpenLayout → Nat → Nat

/-- FREE VALUE (log entry 7): where the `n`th set or stamp of a result of unstated layout comes among its other bytes. -/
opaque Config.openBlock : OpenLayout → Nat → Nat

/-- FREE VALUE (log entry 7): the order and the widths in which READ STORE's result holds its fields. Each pair is the number of a
field, counted from 0 in the order of R154, and its width in bits; fields that share a byte come most significant first. -/
opaque Config.storeLayout : List (Nat × Nat)

/-- FREE VALUE (log entry 7): the code of a named choice that R211 gives none, the choices numbered in the order in which the manual
names them. -/
opaque Config.uncoded : UncodedChoice → Nat → Nat

/-- FREE VALUE (log entry 7): the width in bits of such a code, less 1, modulo 8. -/
opaque Config.uncodedWidth : UncodedChoice → Nat

end Sys2Proof

namespace Sys2Proof.Machine

/-! ### Numbers and sets (R211) -/

/-- One byte of a number. -/
def byteOf (n : Nat) : Byte := BitVec.ofNat 8 n

/-- A signed number in two's complement (R211). -/
def signedBytes (width : Nat) (z : Int) : List Byte := bytesOf width (z % (256 ^ width : Nat)).toNat

/-- A byte of flags, bit 0 first. -/
def flagByte (bits : List Bool) : Byte := byteOf (bits.foldr (fun b n => b.toNat + 2 * n) 0)

/-- A number that may be absent: 0 when it is (R211). -/
def optBytes (width : Nat) (x : Option Nat) : List Byte := bytesOf width (x.getD 0)

/-! ### Codes (R211, R212) -/

/-- The status codes (R212). -/
def Status.code : Status → Nat
  | .done => 0
  | .doneClamped => 1
  | .busy => 2
  | .notNow => 3
  | .locked => 4
  | .conflict => 5
  | .wrongCrew => 6
  | .notFound => 7
  | .badArgument => 8
  | .badLength => 9
  | .unknown => 10
  | .frameError => 11

def portCode (p : Option Port) : Nat :=
  match p with
  | none => 0
  | some .a => 1
  | some .b => 2
  | some .c => 3

def ClockState.code : ClockState → Nat
  | .unset => 0
  | .free => 1
  | .acquiring => 2
  | .holdover => 3
  | .tracking => 4
  | .locked => 5

/-- A discipline stage is sent as a clock state, FFh when there is none (section 11.8). -/
def stageCode (x : Option Stage) : Nat :=
  match x with
  | none => 255
  | some .free => ClockState.free.code
  | some .acquiring => ClockState.acquiring.code
  | some .tracking => ClockState.tracking.code

def Source.code : Source → Nat
  | .noSource => 0
  | .fibre => 1
  | .line => 2

def StepSource.code : StepSource → Nat
  | .fibre => 1
  | .line => 2
  | .date => 3

def Recogniser.code : Recogniser → Nat
  | .waitLow => 0
  | .waitRise => 1
  | .firstHigh => 2
  | .low => 3
  | .secondHigh => 4
  | .suspended => 5

def Mode.code : Mode → Nat
  | .standstill => 0
  | .starting => 1
  | .generating => 2
  | .pumping => 3
  | .condensing => 4
  | .stopping => 5
  | .invalid => 6

/-- A mode that may be ABSENT, 7. -/
def modeCode (m : Option Mode) : Nat := (m.map Mode.code).getD 7

def Role.code : Role → Nat
  | .primary => 0
  | .standby => 1
  | .listen => 2

def ShiftState.code : ShiftState → Nat
  | .onShift => 0
  | .handoverOpen => 1
  | .handoverOverdue => 2

/-- An expected crew, 255 when ANY (R211). -/
def crewCode (c : Option (BitVec 4)) : Nat := (c.map BitVec.toNat).getD 255

def Phase.code : Phase → Nat
  | .waiting => Config.uncoded .phase 0
  | .sending => Config.uncoded .phase 1

def SendState.code : SendState → Nat
  | .idle => Config.uncoded .sendState 0
  | .sending => Config.uncoded .sendState 1

def Receiver.code : Receiver → Nat
  | .awaitHigh => Config.uncoded .receiver 0
  | .idle => Config.uncoded .receiver 1
  | .start => Config.uncoded .receiver 2
  | .data => Config.uncoded .receiver 3
  | .own => Config.uncoded .receiver 4

def InputState.code : InputState → Nat
  | .idle => Config.uncoded .inputState 0
  | .qualifying => Config.uncoded .inputState 1
  | .active => Config.uncoded .inputState 2
  | .releasing => Config.uncoded .inputState 3
  | .blocked => Config.uncoded .inputState 4
  | .disabled => Config.uncoded .inputState 5

def SupplyState.code : SupplyState → Nat
  | .normal => Config.uncoded .supplyState 0
  | .warning => Config.uncoded .supplyState 1
  | .retain => Config.uncoded .supplyState 2

/-- The records in the order of R134. -/
def RecordId.code : RecordId → Nat
  | .settings => Config.uncoded .record 0
  | .time => Config.uncoded .record 1
  | .unit u => Config.uncoded .record (2 + u.val)
  | .currentShift => Config.uncoded .record 10
  | .shiftRecord => Config.uncoded .record 11

def CopyNo.code : CopyNo → Nat
  | .one => Config.uncoded .copy 0
  | .two => Config.uncoded .copy 1

/-- Whether the settings record was loaded or defaulted (R151, R152): R211 gives the two no code, and theirs are free (log entry
7). -/
def settingsOutcomeCode (loaded : Bool) : Nat := Config.uncoded .settingsOutcome (if loaded then 0 else 1)

def LoadOutcome.code : LoadOutcome → Nat
  | .fromCopy .one => Config.uncoded .loadOutcome 0
  | .fromCopy .two => Config.uncoded .loadOutcome 1
  | .lost => Config.uncoded .loadOutcome 2

def PortState.code : PortState → Nat
  | .idle => Config.uncoded .portState 0
  | .executing => Config.uncoded .portState 1
  | .answerReady => Config.uncoded .portState 2

def BurstState.code : BurstState → Nat
  | .forming => 0
  | .opened => 1
  | .closed => 2

/-! ### Stamps and entries (sections 11.4, 11.5) -/

def Stamp.bytes (x : Stamp) : List Byte := bytesOf 2 x.day.toNat ++ bytesOf 3 x.second ++ bytesOf 3 x.micros

def FullStamp.bytes (x : FullStamp) : List Byte :=
  x.stamp.bytes ++ [byteOf x.epoch.toNat, byteOf x.grade.rank] ++ bytesOf 2 x.u

/-- A list of bytes brought to a length with zeros (R211). -/
def padded (n : Nat) (bytes : List Byte) : List Byte := (bytes ++ List.replicate n 0).take n

def EntryBody.kind : EntryBody → Nat
  | .tripAssert .. => 0
  | .tripRelease .. => 1
  | .chatterBlock .. => 2
  | .timeStep .. => 3
  | .supplyGap .. => 4

/-- The kind area of an entry, without its closing zeros (section 11.5). -/
def EntryBody.bytes : EntryBody → List Byte
  | .tripAssert input unit code burst resumed =>
    [byteOf input.val, byteOf unit.val, byteOf code.toNat] ++ bytesOf 2 burst.toNat ++ [flagByte [resumed]]
  | .tripRelease input unit code => [byteOf input.val, byteOf unit.val, byteOf code.toNat]
  | .chatterBlock input unit => [byteOf input.val, byteOf unit.val]
  | .timeStep size first source =>
    [flagByte [size.isSome, first], byteOf source.code]
      ++ signedBytes 4 (size.elim 0 StepSize.seconds) ++ signedBytes 4 (size.elim 0 StepSize.micros)
  | .supplyGap gapStart gapEnd incomplete => gapStart.bytes ++ gapEnd.bytes ++ [flagByte [incomplete]]

/-- A log entry: 17 common bytes and a kind area of 17 (section 11.5). -/
def LogEntry.bytes (e : LogEntry) : List Byte :=
  bytesOf 2 e.seq.toNat ++ [byteOf e.body.kind] ++ e.stamp.bytes ++ bytesOf 2 e.shift.toNat ++ padded 17 e.body.bytes

/-! ### Results (sections 11.5 to 11.8) -/

def Candidate.bytes (c : Option Candidate) : List Byte :=
  [flagByte [c.isSome]] ++ signedBytes 4 (c.elim 0 Candidate.p) ++ [byteOf (c.elim 0 Candidate.agree)]

def PendingDate.bytes (d : Option PendingDate) : List Byte :=
  let x := d.getD { day := 0, second := 0, setters := .empty }
  [flagByte [d.isSome, x.setters.a, x.setters.b, x.setters.c, x.setters.line]] ++ bytesOf 2 x.day.toNat
    ++ bytesOf 3 x.second

/-- READ CLOCK, 39 bytes (section 11.8). -/
def ClockSample.bytes (x : ClockSample) : List Byte :=
  x.stamp.bytes ++ [byteOf x.epoch.toNat, byteOf x.state.code, byteOf x.grade.rank] ++ bytesOf 2 x.u
    ++ signedBytes 4 x.trim ++ signedBytes 2 x.slew
    ++ [byteOf x.source.code, byteOf (stageCode x.stage), byteOf x.acqCount, byteOf x.lockCount]
    ++ Candidate.bytes x.candidate ++ PendingDate.bytes x.slot ++ bytesOf 4 x.elapsedSeconds.toNat

/-- READ SOURCE, 35 bytes (section 11.8). -/
def SourceSample.bytes (x : SourceSample) : List Byte :=
  [byteOf x.selected.code,
    flagByte [x.firstAfterChange, x.faulted, x.fibreRef.isSome, x.lineRef.isSome, x.fibrePresence, x.peerPresence,
      x.lineMarks, x.wellGraded.isSome],
    byteOf x.faultCounter, byteOf x.recogniser.code, byteOf x.streak]
    ++ optBytes 2 x.fibreRef ++ optBytes 2 x.lineRef
    ++ [byteOf (x.wellGraded.elim 0 fun w => w.id.toNat), byteOf (x.wellGraded.elim 0 fun w => w.grade.rank)]
    ++ bytesOf 2 x.delay ++ bytesOf 2 x.window ++ bytesOf 4 x.totals.fibreAccepted ++ bytesOf 4 x.totals.fibreStrays
    ++ bytesOf 4 x.totals.malformed ++ bytesOf 4 x.totals.lineAccepted ++ bytesOf 4 x.totals.lineStrays

/-- READ LOG, 4 to 276 bytes (section 11.5). -/
def LogRead.bytes (x : LogRead) : List Byte :=
  bytesOf 2 x.missed ++ [flagByte [x.moreFollows], byteOf x.entries.length] ++ x.entries.flatMap LogEntry.bytes

/-- READ LOG STATE, 19 bytes (section 11.5). -/
def LogState.bytes (x : LogState) : List Byte :=
  let port := fun (p : Port) => bytesOf 2 (x.cursors.get p).toNat ++ bytesOf 2 (x.missed.get p)
  bytesOf 2 x.held ++ [flagByte [x.oldest.isSome]] ++ optBytes 2 (x.oldest.map BitVec.toNat) ++ bytesOf 2 x.nextSeq.toNat
    ++ port .a ++ port .b ++ port .c

def Actions.bits (x : Actions) : List Bool := [x.faultTrip, x.holdHandover, x.notifyAll]

/-- LIST BURSTS, 6 to 134 bytes (section 11.6). -/
def BurstList.bytes (x : BurstList) : List Byte :=
  [byteOf x.holdCount, byteOf x.freePlaces, flagByte [x.openRef.isSome]] ++ optBytes 2 (x.openRef.map BitVec.toNat)
    ++ [byteOf x.lines.length]
    ++ x.lines.flatMap fun l => bytesOf 2 l.number.toNat ++ [byteOf l.state.code, byteOf (portCode l.ack)]

/-- READ BURST, 31 bytes (section 11.6). -/
def BurstSample.bytes (x : BurstSample) : List Byte :=
  let r := x.record
  bytesOf 2 r.number.toNat ++ [byteOf r.state.code, byteOf (portCode r.ack)] ++ bytesOf 2 r.shift.toNat
    ++ bytesOf 2 x.sinceOpening ++ bytesOf 2 x.sinceJoin ++ [byteOf r.firstOut.input.val] ++ r.firstOut.stamp.bytes
    ++ [byteOf r.firstOut.epoch.toNat] ++ bytesOf 2 r.firstOut.seq.toNat ++ bytesOf 4 r.asserts ++ bytesOf 2 r.units.toNat
    ++ [flagByte r.actions.bits, byteOf r.counted.toNat,
        flagByte [r.lostEntries, r.overflowJoined, decide (r.state = .forming)]]

/-- READ FILTERS, 22 bytes (DEDUCED, log entry 7): each filter in SET FILTER's order, then Tg. -/
def FilterSample.bytes (x : FilterSample) : List Byte :=
  (x.filters.cells.flatMap fun f =>
    [byteOf f.code.toNat, byteOf f.mask.toNat] ++ bytesOf 2 f.units.toNat ++ [flagByte f.actions.bits])
    ++ bytesOf 2 x.burstGap

def Tally.bytes (t : Tally) : List Byte := bytesOf 4 t.seconds ++ [byteOf t.tenths]

def Counts.bytes (c : Counts) : List Byte :=
  bytesOf 4 c.genStarts ++ bytesOf 4 c.pumpStarts ++ bytesOf 4 c.aborted ++ bytesOf 4 c.faults

/-- The seven modes in mode order (section 0.3). -/
def allModes : List Mode := [.standstill, .starting, .generating, .pumping, .condensing, .stopping, .invalid]

/-- READ UNIT, 102 bytes (section 11.8). -/
def UnitSample.bytes (x : UnitSample) : List Byte :=
  [flagByte [x.fitted, x.candidate.isSome, x.modeSeconds.isSome, x.serviceDue], byteOf x.code.toNat,
    byteOf (modeCode x.raw), byteOf ((x.candidate.map Mode.code).getD 0)]
    ++ optBytes 2 x.settleTenths ++ [byteOf (modeCode x.mode)] ++ optBytes 4 x.modeSeconds
    ++ allModes.flatMap (fun m => (x.tallies.get m).bytes) ++ x.counts.bytes ++ bytesOf 5 x.runningTotal
    ++ bytesOf 4 x.limit ++ x.deltas.generating.bytes ++ x.deltas.pumping.bytes ++ x.deltas.condensing.bytes
    ++ x.deltas.counts.bytes

/-- READ MODE TABLE, 52 bytes (DEDUCED, log entry 7): the 16 modes, the fitted set, Ts, the eight limits. -/
def TableSample.bytes (x : TableSample) : List Byte :=
  (x.modeTable.cells.map fun m => byteOf m.code) ++ bytesOf 2 x.fitted.toNat ++ bytesOf 2 x.settle
    ++ x.limits.cells.flatMap (bytesOf 4)

/-- READ INPUTS, 18 bytes (DEDUCED, log entry 7): the trip lines, the state lines, a full stamp. -/
def LevelsSample.bytes (x : LevelsSample) : List Byte :=
  bytesOf 2 x.tripIn.toNat ++ bytesOf 4 x.unitState.toNat ++ x.stamp.bytes

def TripSummary.bytes (x : TripSummary) : List Byte := bytesOf 4 x.asserts ++ bytesOf 4 x.bursts ++ bytesOf 4 x.faults

def UnitEntry.bytes (x : UnitEntry) : List Byte :=
  [byteOf x.unit.val] ++ bytesOf 4 x.genSeconds ++ bytesOf 4 x.pumpSeconds ++ bytesOf 4 x.condSeconds ++ x.counts.bytes

/-- Bytes 48 to 52 of a shift record: what opened the handover (section 11.7). -/
def OpenedBy.bytes : OpenedBy → List Byte
  | .schedule index second => [byteOf 0, byteOf index] ++ bytesOf 3 second
  | .port p => [byteOf (portCode (some p)), 0, 0, 0, 0]

/-- READ SHIFT RECORD, 73 + 29 n bytes (section 11.7). -/
def ShiftRecord.bytes (r : ShiftRecord) : List Byte :=
  bytesOf 2 r.number.toNat ++ [byteOf r.crewOut.toNat, byteOf r.crewIn.toNat] ++ r.start.bytes ++ r.opened.bytes
    ++ r.completed.bytes ++ bytesOf 4 r.duration ++ bytesOf 4 r.length ++ r.openedBy.bytes
    ++ [byteOf (portCode r.releasedBy), byteOf (portCode (some r.acceptedBy)),
        flagByte [r.overdue, r.forcedHold.isSome, r.interrupted], byteOf (r.forcedHold.getD 0)]
    ++ bytesOf 2 r.missed ++ [byteOf r.worst.rank] ++ r.summary.bytes ++ [byteOf r.units.length]
    ++ r.units.flatMap UnitEntry.bytes

/-- CLEAR NOTICES, 6 bytes (DEDUCED, log entry 7): the set before, the set after. -/
def ClearResult.bytes (x : ClearResult) : List Byte := bytesOf 3 x.before.toNat ++ bytesOf 3 x.after.toNat

/-! ### Results of a stated length and unstated layout (R211, log entry 7) -/

/-- READ STORE's fields in its layout, as R211 sends them: each number most significant bit first, a field that the layout does not
name left out, and what is left of the stated length 0. -/
def layOutStore (length : Nat) (fields : List Nat) : List Byte :=
  padded length
    (wireBytes ((Config.storeLayout.flatMap fun f => bitsOf f.2 (fields.getD f.1 0)) ++ List.replicate 7 false))

/-- Each of `items`, counted from `n`, put among `xs` and the items before it, in the place that `place` gives. -/
def putAll {α : Type} (place : Nat → Nat) : Nat → List α → List α → List α
  | _, [], xs => xs
  | n, item :: items, xs => putAll place (n + 1) items (xs.insertIdx (place n % (xs.length + 1)) item)

/-- Fields one after another, counted from `n`, with `slack` bits 0 between and after them. -/
def spaced (gap : Nat → Nat) : Nat → Nat → List (List Bool) → List Bool
  | _, slack, [] => List.replicate slack false
  | n, slack, field :: fields =>
    let g := gap n % (slack + 1)
    List.replicate g false ++ field ++ spaced gap (n + 1) (slack - g) fields

/-- Fields in a free layout, as R211 sends them: each of `blocks`, a set or a stamp, in whole bytes, and in the other bytes each
number whole, in its width, most significant bit first. Order and gaps are free, and the bits that no field has are 0. -/
def layOut (layout : OpenLayout) (length : Nat) (blocks : List (List Byte)) (widths fields : List Nat) : List Byte :=
  let others := 8 * (length - (blocks.map List.length).sum)
  let numbers := putAll (Config.openOrder layout) 0 (List.zipWith bitsOf widths fields) []
  let bytes := wireBytes (spaced (Config.openGap layout) 0 (others - widths.sum) numbers)
  (putAll (Config.openBlock layout) 0 blocks (bytes.map fun b => [b])).flatten

/-- A field that may be absent: its presence bit, and a value that is 0 when it is absent (R211). -/
def optField (x : Option Nat) : List Nat := [x.isSome.toNat, x.getD 0]

/-- Fields that may be absent together: a presence bit, and values that are 0 when they are absent (R211). -/
def optFields {α : Type} (n : Nat) (f : α → List Nat) (x : Option α) : List Nat :=
  match x with
  | none => List.replicate (n + 1) 0
  | some a => 1 :: f a

/-- A list of at most `n` members in `n` places, each absent or present (R211). DESIGN CHOICE (log entry 7): a result of fixed length
that holds a list gives the count of its members and, in each place, whether one stands there; the spec gives it neither. -/
def placed {α : Type} (n width : Nat) (f : α → List Nat) (xs : List α) : List Nat :=
  (List.range n).flatMap fun k => optFields width f xs[k]?

/-- The width of a code that R211 does not give: 1 to 8 bits. -/
def codeWidth (c : UncodedChoice) : Nat := Config.uncodedWidth c % 8 + 1

/-- The widths of fields of widths `ws` that may be absent together, with their presence bit. -/
def optWidths (ws : List Nat) : List Nat := 1 :: ws

/-- The widths of a list of at most `n` members in `n` places. -/
def placedWidths (n : Nat) (ws : List Nat) : List Nat := (List.range n).flatMap fun _ => optWidths ws

/-- A full stamp that may be absent: 12 bytes (section 11.4), 0 when it is (R211). -/
def optStamp (x : Option FullStamp) : List Byte := x.elim (List.replicate 12 0) FullStamp.bytes

def LineCounts.fields (c : LineCounts) : List Nat :=
  [c.sent, c.busySkips, c.arbitrationLosses, c.idClashes, c.sendFaults, c.valid, c.broken, c.disagreements, c.takeovers]

def TelegramSample.fields (x : TelegramSample) : List Nat :=
  [x.telegram.id.toNat, x.telegram.grade.rank, x.telegram.epochBits.toNat, x.telegram.day.toNat, x.telegram.second,
    x.telegram.contested.toNat, x.age]

/-- READ LINE, in the order of R60. -/
def LineSample.fields (x : LineSample) : List Nat :=
  [x.role.code, x.phase.code, x.ownId.toNat, x.takeover, x.crossLimit, x.sendState.code, x.receiver.code, x.lineFree.toNat]
    ++ optFields 7 TelegramSample.fields x.lastValid ++ optField x.lastOther ++ [x.silence] ++ optField x.lastDisagree
    ++ x.counts.fields

/-- The widths of READ LINE's numbers. -/
def lineWidths : List Nat :=
  [2, codeWidth .phase, 3, 4, 14, codeWidth .sendState, codeWidth .receiver, 1] ++ optWidths [3, 3, 2, 16, 17, 1, 16]
    ++ optWidths [16] ++ [16] ++ optWidths [16] ++ List.replicate 9 16

/-- READ INPUT's numbers, in the order of R79; the capture's stamp, epoch, grade and U are a full stamp. -/
def InputSample.fields (x : InputSample) : List Nat :=
  [x.setting.enabled.toNat, x.setting.activeLow.toNat, x.setting.unit.val, x.setting.code.toNat, x.setting.tq,
    x.setting.logReleases.toNat, x.chatter, x.state.code, x.active.toNat, x.score]
    ++ optField x.lastAssert ++ optField (x.capture.map Capture.tq)

/-- The widths of READ INPUT's numbers. -/
def inputWidths : List Nat := [1, 1, 4, 6, 8, 1, 7, codeWidth .inputState, 1, 6] ++ optWidths [16] ++ optWidths [8]

/-- SEEK LOG, in the order of R88. -/
def SeekResult.fields (x : SeekResult) : List Nat :=
  [x.cursor.toNat] ++ optField (x.oldest.map BitVec.toNat) ++ [x.nextSeq.toNat]

/-- The widths of SEEK LOG's numbers. -/
def seekWidths : List Nat := [16] ++ optWidths [16] ++ [16]

/-- One unit of READ UNITS, in the order of R128. -/
def UnitSummary.fields (x : UnitSummary) : List Nat :=
  [x.fitted.toNat, x.code.toNat, modeCode x.mode] ++ optField (x.candidate.map Mode.code) ++ [x.serviceDue.toNat]

/-- The widths of READ UNITS' numbers. -/
def unitsWidths : List Nat := (List.range 8).flatMap fun _ => [1, 4, 3] ++ optWidths [3] ++ [1]

def Request.fields (q : Request) : List Nat := [q.record.code, q.emergency.toNat, q.retry.toNat]

def ProgramSample.fields (x : ProgramSample) : List Nat :=
  [x.record.code] ++ optField (x.copy.map CopyNo.code) ++ optField (x.counter.map BitVec.toNat) ++ [x.retry.toNat, x.age]

def CopiesSample.fields (x : CopiesSample) : List Nat :=
  [x.validOne.toNat, x.counterOne.toNat, x.validTwo.toNat, x.counterTwo.toNat]

/-- READ STORE, in the order of R154; the queue with its count and a presence bit in each place (DESIGN CHOICE, log entry 7). -/
def StoreSample.fields (x : StoreSample) : List Nat :=
  [x.supply.code, x.warnings] ++ optFields 7 ProgramSample.fields x.program
    ++ [x.queue.length] ++ placed 12 3 Request.fields x.queue
    ++ x.time.fields ++ x.units.cells.flatMap CopiesSample.fields ++ x.currentShift.fields
    ++ [x.settingsValid.toNat] ++ x.slotsValid.cells.map Bool.toNat
    ++ [x.counts.verified, x.counts.failures, x.counts.dropped, x.counts.torn]
    ++ [settingsOutcomeCode x.load.settingsLoaded, x.load.time.code] ++ x.load.units.cells.map LoadOutcome.code
    ++ [x.load.currentShift.code, x.load.slots, x.commitInterval, x.intervalLeft, x.hourlyLeft]

def TripSummary.fields (x : TripSummary) : List Nat := [x.asserts, x.bursts, x.faults]

/-- What opened a handover: 0 SCHEDULE with index and second of day, or a port code (section 11.7). -/
def OpenedBy.fields : OpenedBy → List Nat
  | .schedule index second => [0, index, second]
  | .port p => [portCode (some p), 0, 0]

def HandoverSample.fields (x : HandoverSample) : List Nat :=
  x.handover.openedBy.fields ++ [crewCode x.handover.expected, x.age, portCode x.handover.released]
    ++ optFields 2 (fun a => [a.crew.toNat, portCode (some a.port)]) x.handover.accepted ++ [x.handover.missed, x.left]

/-- READ SHIFT's stamps, in the order of R175. -/
def ShiftSample.stamps (x : ShiftSample) : List (List Byte) :=
  [x.current.start.bytes, optStamp (x.handover.map fun h => h.handover.stamp)]

def BoundarySample.fields (x : BoundarySample) : List Nat :=
  [x.index, x.second, crewCode x.crew] ++ optField (x.marker.map BitVec.toNat)

/-- READ SHIFT's numbers, in the order of R175; the two stamps with epoch, grade and U are full stamps. The schedule and the record
numbers come with their counts and a presence bit in each place (DESIGN CHOICE, log entry 7). -/
def ShiftSample.fields (x : ShiftSample) : List Nat :=
  [x.state.code, x.current.number.toNat, x.current.crew.toNat, x.age, x.current.interrupted.toNat, x.current.worst.rank]
    ++ x.current.summary.fields ++ optFields 11 HandoverSample.fields x.handover ++ [x.holdCount]
    ++ [x.schedule.length] ++ placed 6 5 BoundarySample.fields x.schedule
    ++ [x.window, x.bellWidth, x.bellHigh.toNat, x.records.length] ++ placed 16 1 (fun n => [n.toNat]) x.records

/-- The widths of READ SHIFT's numbers. -/
def shiftWidths : List Nat :=
  [2, 16, 4, 32, 1, 3, 32, 32, 32] ++ optWidths ([2, 3, 17, 8, 32, 2] ++ optWidths [4, 2] ++ [16, 13]) ++ [6]
    ++ [3] ++ placedWidths 6 ([3, 17, 8] ++ optWidths [16]) ++ [7, 7, 1, 5] ++ placedWidths 16 [16]

def PortSample.fields (x : PortSample) : List Nat := [x.state.code, x.overrun.toNat, x.bound.toNat]

/-- READ PORTS, in the order of R196. -/
def PortsSample.fields (x : PortsSample) : List Nat :=
  x.ports.a.fields ++ x.ports.b.fields ++ x.ports.c.fields ++ allGroups.map fun g => portCode (x.locks.holder g)

/-- The widths of READ PORTS' numbers. -/
def portsWidths : List Nat := (List.range 3).flatMap (fun _ => [codeWidth .portState, 1, 1]) ++ List.replicate 6 2

/-- READ NOTICES' sets, in the order of R206: 3 bytes each for the notice kinds, 2 for the interest mask (R211). -/
def NoticesSample.sets (x : NoticesSample) : List (List Byte) :=
  [bytesOf 3 x.pending.toNat, bytesOf 3 x.settings.enable.toNat, bytesOf 2 x.settings.interest.toNat]

/-- READ NOTICES' numbers, in the order of R206. -/
def NoticesSample.fields (x : NoticesSample) : List Nat :=
  [x.settings.holdoff] ++ optField x.holdoffLeft ++ [x.attention.toNat]

/-- The widths of READ NOTICES' numbers. -/
def noticesWidths : List Nat := [10] ++ optWidths [10] ++ [1]

/-- The bytes of a result (R187, R212, sections 11.5 to 11.9). -/
def Result.bytes (r : Result) : List Byte :=
  match r with
  | .empty => []
  | .clock x => x.bytes
  | .source x => x.bytes
  | .line x => layOut .line 50 [] lineWidths x.fields
  | .levels x => x.bytes
  | .input x => layOut .input 26 [optStamp (x.capture.map Capture.stamp)] inputWidths x.fields
  | .log x => x.bytes
  | .seek x => layOut .seek 7 [] seekWidths x.fields
  | .logState x => x.bytes
  | .bursts x => x.bytes
  | .burst x => x.bytes
  | .filters x => x.bytes
  | .unit x => x.bytes
  | .units x => layOut .units 40 [] unitsWidths (x.cells.flatMap UnitSummary.fields)
  | .table x => x.bytes
  | .store x => layOutStore 74 x.fields
  | .shift x => layOut .shift 142 x.stamps shiftWidths x.fields
  | .shiftRecord x => x.bytes
  | .ports x => layOut .ports 15 [] portsWidths x.fields
  | .saved written => [byteOf (if written then 0 else 1)]
  | .cleared x => x.bytes
  | .notices x => layOut .notices 12 x.sets noticesWidths x.fields

/-- An answer as FETCH shifts it out (section 11.2). -/
def Answer.bytes (a : Answer) : List Byte :=
  [byteOf a.status.code, flagByte [false, false, false, false, false, false, false, a.overrun]]
    ++ bytesOf 2 a.result.bytes.length ++ a.result.bytes

end Sys2Proof.Machine
end

