-- ==== Sys2Proof/Machine/Ports.lean ====
section
/-! DEFINITION. The Port Controllers and the locks: transactions, FETCH, frames that no block sees, LOCK and UNLOCK GROUP, SAVE
SETTINGS, READ PORTS (chapter 9). -/

namespace Sys2Proof.Machine

/-! ### Transactions (R182) -/

/-- A transaction begins, with whether the port is running; data out is low until a FETCH is taken (R182). -/
def beginTransaction (p : Port) (s : State) : State :=
  s.withPort p { s.ports.get p with transaction := some { counts := portsRunning s }, answerBits := [] }

/-- SELECT_FALL (R182). Select has risen since the last fall, without further effect, when a FETCH was taken (R185); with select
low it cannot fall (log entry 22). -/
def selectFalls (p : Port) (s : State) : State :=
  match (s.ports.get p).transaction with
  | none => beginTransaction p s
  | some t => if t.fetched = true then beginTransaction p s else s

/-- Data out stands high in bit `n`, counted from 0, of the transaction whose select fell last: only the bits of an answer read by
FETCH, after the 16 bits of its code and length byte, are driven by anything but low (R182, R185). -/
def dataOutHigh (c : PortCtl) (n : Nat) : Bool := decide (16 ≤ n) && (c.answerBits[n - 16]?).getD false

/-- A port stopped: idle, its answer, overrun flag and binding discarded, its transaction abandoned (R197, R198). -/
def PortCtl.stop (c : PortCtl) : PortCtl :=
  { state := .idle, answer := none, overrun := false, transaction := c.transaction.map fun t => { t with counts := false },
    binding := none, answerBits := [] }

/-- Every port stopped (R197, R198). -/
def stopPorts (s : State) : State := { s with ports := ⟨s.ports.a.stop, s.ports.b.stop, s.ports.c.stop⟩ }

/-- Every lock freed (R192). -/
def freeLocks (s : State) : State := { s with locks := .free }

/-! ### FETCH (R185) -/

/-- What FETCH samples at a port (R185). -/
def sampled (c : PortCtl) : List Byte :=
  match c.state, c.answer with
  | .executing, _ => Answer.bytes { status := .busy, overrun := false, result := .empty }
  | .answerReady, some a => a.bytes
  | _, _ => Answer.bytes { status := .notNow, overrun := false, result := .empty }

/-- The length byte of a FETCH is complete, select still low: the port samples what it shifts out on the read clocks that follow,
each byte most significant bit first, and holds it until select falls again. A transaction that does not count drives nothing
(R182, R185). A second FETCH in one transaction is none: its bytes are read clocks of the first. -/
def takeFetch (p : Port) (s : State) : State :=
  match (s.ports.get p).transaction with
  | none => s
  | some t =>
    if t.fetched = true then s
    else
      s.withPort p
        { s.ports.get p with
          transaction := some { t with fetched := true }
          answerBits :=
            if t.counts = true ∧ working s = true then wireBits (sampled (s.ports.get p))
            else (s.ports.get p).answerBits }

/-- FETCH: code FETCH with a length byte. With length byte 0 the row is the moment at which that byte is complete, and the bits
clocked in after it are read clocks, which decide nothing. With another it is a frame like any other, judged at its rise of select
(R183, R185, log entry 22). -/
def fetchFrame (p : Port) (lengthByte : Byte) (clocked : List Bool) (s : State) : State :=
  if lengthByte = 0 then takeFetch p s
  else
    atRise p
      (fun s =>
        answerPort p
          (if longestFrame < lengthByte.toNat ∨ clocked.length ≠ 8 * lengthByte.toNat then .frameError else .badLength) .empty s)
      s

/-! ### Frames that no block sees (R183, R188) -/

/-- BROKEN_FRAME: a transaction that clocked in `bits`, one for each clock edge (R182, R183). With no edge there is no frame. A
frame that is not broken is another row's. -/
def brokenFrame (p : Port) (bits : List Bool) (s : State) : State :=
  match frameForm bits with
  | .noFrame => endTransaction p s
  | .broken => atRise p (answerPort p .frameError .empty) s
  | .fetch => s
  | .wellFormed => s

/-- The code is one of the part's commands (section 11.9). -/
def isCommand (code : Byte) : Bool := decide (code.toNat = fetchCode) || commandCodes.contains code.toNat

/-- UNKNOWN_COMMAND: a well-formed frame whose code is no command's (R188). A frame of more than 60 argument bytes is
broken. A code of the part's is another row's. -/
def unknownCommand (p : Port) (code : Byte) (args : List Byte) (s : State) : State :=
  if isCommand code then s
  else atRise p (answerPort p (if longestFrame < args.length then .frameError else .unknown) .empty) s

/-! ### Locks (R192, R193) -/

/-- LOCK GROUP (R192). -/
def lockGroup (p : Port) (args : List Byte) (s : State) : Reply :=
  match groupOf (argNumber args 0 1) with
  | none => refuse .badArgument s
  | some g =>
    if heldByOther s p g then refuse .locked s
    else { state := { s with locks := s.locks.assign g (some p) }, status := .done }

/-- UNLOCK GROUP (R193). -/
def unlockGroup (p : Port) (args : List Byte) (s : State) : Reply :=
  match groupOf (argNumber args 0 1) with
  | none => refuse .badArgument s
  | some g =>
    if heldByOther s p g then refuse .locked s
    else { state := { s with locks := s.locks.assign g none }, status := .done }

/-! ### SAVE SETTINGS (R195) -/

/-- Any of the six groups is held by a port other than `p` (R195). -/
def anyHeldByOther (s : State) (p : Port) : Bool := allGroups.any (heldByOther s p)

/-- SAVE SETTINGS passes step 4: the port executes without an answer, bound to the settings request (R195). -/
def beginSave (p : Port) (s : State) : State :=
  request .settings
    (s.withPort p { s.ports.get p with state := .executing, answer := none, binding := some .queued })

/-- SAVE SETTINGS (R183, R188, R195). -/
def saveSettings (p : Port) (args : List Byte) (s : State) : State :=
  atRise p
    (fun s =>
      if longestFrame < args.length then answerPort p .frameError .empty s
      else if fits args 0 = false then answerPort p .badLength .empty s
      else if anyHeldByOther s p then answerPort p .locked .empty s
      else beginSave p s)
    s

/-! ### READ PORTS (R196) -/

def PortCtl.sample (c : PortCtl) : PortSample := { state := c.state, overrun := c.overrun, bound := c.binding.isSome }

/-- What READ PORTS samples (R196). -/
def portsSample (s : State) : PortsSample :=
  { ports := ⟨s.ports.a.sample, s.ports.b.sample, s.ports.c.sample⟩, locks := s.locks }

end Sys2Proof.Machine
end

