-- ==== Sys2Proof/Machine/NoticeCommands.lean ====
section
/-! DEFINITION. The commands and the holdoff of the Notice Controller (sections 10.3, 10.4). -/

namespace Sys2Proof.Machine

/-! ### Clearing and the holdoff (R203, R204) -/

/-- The holdoff that a holdoff time of `ms` starts now: none when it is 0 (R204). -/
def startHoldoff (ms : Nat) (s : State) : Option Interval :=
  if ms = 0 then none else some (intervalFrom s (ms * Config.milli))

/-- The kinds removed from a port's pending set, and its holdoff started (R203). -/
def clearKinds (p : Port) (kinds : BitVec 21) (s : State) : State :=
  s.withNotices p
    { s.notices.get p with
      pending := (s.notices.get p).pending &&& ~~~kinds,
      holdoff := startHoldoff (s.settings.notice.get p).holdoff s }.refresh

/-- CLEAR NOTICES (R203). -/
def clearNotices (p : Port) (args : List Byte) (s : State) : Reply :=
  match maskOf 21 (argNumber args 0 3) with
  | none => refuse .badArgument s
  | some kinds =>
    { state := clearKinds p kinds s
      status := .done
      result := .cleared
        { before := (s.notices.get p).pending, after := ((clearKinds p kinds s).notices.get p).pending } }

def holdoffDue (p : Port) (s : State) : Bool := working s && ended s (s.notices.get p).holdoff

/-- HOLDOFF_EXPIRY (R204). -/
def expireHoldoff (p : Port) (s : State) : State :=
  if holdoffDue p s = false then s else s.withNotices p { s.notices.get p with holdoff := none }.refresh

/-! ### Notice settings (R205, R206) -/

/-- The settings written at a port: the kinds that leave the enable set leave the pending set (R205). -/
def writeNotices (target : Port) (x : NoticeSettings) (s : State) : State :=
  let leaving := (s.settings.notice.get target).enable &&& ~~~x.enable
  let t : State := { s with settings := { s.settings with notice := s.settings.notice.set target x } }
  t.withNotices target
    { s.notices.get target with pending := (s.notices.get target).pending &&& ~~~leaving }.refresh

/-- SET NOTICES (R205): judged against the NOTICE lock when it writes another port's settings. -/
def setNotices (p : Port) (args : List Byte) (s : State) : Reply :=
  let ms := argNumber args 6 2
  match portOf (argNumber args 0 1), maskOf 21 (argNumber args 1 3), maskOf 9 (argNumber args 4 2) with
  | some target, some enable, some interest =>
    let body := fun (s : State) =>
      { state := writeNotices target { enable := enable ||| startKinds, interest := interest, holdoff := clampNat 0 1000 ms } s
        status := clampedStatus (outside 0 1000 ms) : Reply }
    if target = p then body s else unlessLocked p .notice body s
  | _, _, _ => refuse .badArgument s

/-- What READ NOTICES samples of a port (R206). -/
def noticesSample (target : Port) (s : State) : NoticesSample :=
  { pending := (s.notices.get target).pending, settings := s.settings.notice.get target,
    holdoffLeft := (s.notices.get target).holdoff.map fun x => (x.length - since s x.start) / Config.milli,
    attention := (s.notices.get target).attention }

/-- READ NOTICES (R206). -/
def readNotices (args : List Byte) (s : State) : Reply :=
  match portOf (argNumber args 0 1) with
  | none => refuse .badArgument s
  | some target => { state := s, status := .done, result := .notices (noticesSample target s) }

end Sys2Proof.Machine
end

