-- ==== Sys2Proof/Machine/Loading.lean ====
section
/-! DEFINITION. The cold start: the load of the store and the values every block takes (R27, R44, R63, R82, R90, R111, R133,
R150 to R153, R180, R199, R210). -/

namespace Sys2Proof.Machine

/-! ### The settings record (R150) -/

def TimeSettings.clamped (x : TimeSettings) : TimeSettings :=
  { x with
    kp := clampNat 1 6 x.kp, kf := clampNat 0 5 x.kf, stepLimit := clampNat 1000 5000000 x.stepLimit,
    lockLimit := clampNat 10 10000 x.lockLimit, growthPeriod := clampNat 1 3600 x.growthPeriod,
    pulseWidth := clampNat 1 500 x.pulseWidth, markWindow := clampNat 100 50000 x.markWindow }

def LineSettings.clamped (x : LineSettings) : LineSettings :=
  { x with
    takeover := clampNat 2 15 x.takeover, crossLimit := clampNat 10 10000 x.crossLimit, delay := clampNat 0 2000 x.delay }

def InputsSettings.clamped (x : InputsSettings) : InputsSettings :=
  { x with
    inputs := .ofFn fun i => { x.inputs.get i with tq := clampNat 1 255 (x.inputs.get i).tq },
    chatter := clampNat 1 100 x.chatter, burstGap := clampNat 20 5000 x.burstGap }

def TallySettings.clamped (x : TallySettings) : TallySettings :=
  { x with
    settle := clampNat 1 300 x.settle, limits := .ofFn fun u => clampNat 0 top32 (x.limits.get u),
    commitInterval := clampNat 60 3600 x.commitInterval }

def ShiftSettings.clamped (x : ShiftSettings) : ShiftSettings :=
  { schedule := x.schedule.map fun b => { b with second := clampNat 0 (Config.day - 1) b.second },
    window := clampNat 1 120 x.window, bellWidth := clampNat 5 100 x.bellWidth }

/-- The start kinds are always included (R205). -/
def NoticeSettings.clamped (x : NoticeSettings) : NoticeSettings :=
  { x with enable := x.enable ||| startKinds, holdoff := clampNat 0 1000 x.holdoff }

/-- A settings record brought into range, as a command would bring it (R150). -/
def Settings.clamped (x : Settings) : Settings :=
  { time := x.time.clamped, line := x.line.clamped, inputs := x.inputs.clamped, tally := x.tally.clamped,
    shift := x.shift.clamped, notice := ⟨x.notice.a.clamped, x.notice.b.clamped, x.notice.c.clamped⟩ }

/-- The working values at a cold start: the settings record's, or the defaults (R150, R191). -/
def TallyStore.loadSettings (t : TallyStore) : Settings :=
  if t.settingsRecord.valid then t.settingsRecord.content.clamped else .default

/-! ### The two-copy records (R151) -/

/-- The content of the later valid copy, none when the record is lost (R151). -/
def TwoCopy.loaded {α : Type} (t : TwoCopy α) : Option α := t.later.map fun c => (t.get c).content

/-- The entry of a two-copy record in the load report (R151). -/
def TwoCopy.outcome {α : Type} (t : TwoCopy α) : LoadOutcome :=
  match t.later with
  | none => .lost
  | some c => .fromCopy c

/-- The content of a lost unit record: zeros (R151). -/
def UnitRecord.zero : UnitRecord := ⟨.zero, .zero⟩

def TallyStore.loadUnit (t : TallyStore) (u : Fin 8) : UnitRecord := (t.unitRecords.get u).loaded.getD .zero

def TallyStore.loadTime (t : TallyStore) : TimeRecord := t.timeRecord.loaded.getD ⟨0, 0⟩

/-- A lost current-shift record has the shift start now, with the epoch just loaded (R151, R161, R180). -/
def TallyStore.loadShift (t : TallyStore) : ShiftContent := t.shiftContent.loaded.getD (.fallback t.loadTime.epoch)

/-! ### The shift records (R152) -/

/-- The distance of a shift number behind the current one, modulo 65,536 (R152). -/
def behind (current : BitVec 16) (r : ShiftRecord) : Nat := (current - r.number).toNat

/-- Puts a record in its place, the smallest distance first (R152). -/
def insertRecord (current : BitVec 16) (r : ShiftRecord) : List ShiftRecord → List ShiftRecord
  | [] => [r]
  | x :: rest => if behind current r ≤ behind current x then r :: x :: rest else x :: insertRecord current r rest

/-- The record that a slot yields (R136, R152). -/
def slotRecord (x : Single (Option ShiftRecord)) : Option ShiftRecord := if x.valid then x.content else none

/-- The shift record list rebuilt from the valid slots, newest first (R152). -/
def TallyStore.loadRecords (t : TallyStore) : List ShiftRecord :=
  (t.slots.cells.filterMap slotRecord).foldr (insertRecord t.loadShift.number) []

/-! ### The blocks after the load -/

/-- The load report (R151, R152). -/
def TallyStore.report (t : TallyStore) : LoadReport :=
  { settingsLoaded := t.settingsRecord.valid, time := t.timeRecord.outcome,
    units := .ofFn fun u => (t.unitRecords.get u).outcome, currentShift := t.shiftContent.outcome,
    slots := t.loadRecords.length }

/-- The Tally Store after the load (R151, R153). -/
def TallyStore.afterLoad (t : TallyStore) : TallyStore :=
  { t with
    lastUnits := .ofFn t.loadUnit, lastShift := t.loadShift, queue := [], program := none,
    interval := some ⟨0, t.loadSettings.tally.commitInterval * Config.second⟩, hourly := some 0, counts := ⟨0, 0, 0, 0⟩,
    load := t.report }

/-- A machine unit after the load, its service-due flag set without a posting (R133). -/
def coldUnit (s : State) (u : Fin 8) : MachineUnit :=
  let r := s.store.loadUnit u
  let limit := s.settings.tally.limits.get u
  let x : MachineUnit :=
    { raw := none, candidate := none, settleStart := 0, mode := none, modeEntry := none, tallies := r.tallies,
      counts := r.counts, serviceDue := false, deltas := s.store.loadShift.deltas.get u }
  if isFitted s u then
    { x with raw := some (decodedMode s u), mode := some (decodedMode s u), modeEntry := some 0,
             serviceDue := decide (limit ≠ 0) && decide (limit ≤ x.runningTotal) }
  else x

/-- The Shift Controller after the load (R180). -/
def coldShift (s : State) : ShiftController :=
  let c := s.store.loadShift
  { markers := s.settings.shift.schedule.map fun _ => none, state := .onShift,
    current := { number := c.number, crew := c.crew, start := c.start, startReading := 0, interrupted := true, worst := .e,
                 summary := c.summary },
    handover := none, holdCount := 0, records := s.store.loadRecords, bell := none }

/-- A kind posted during the load to a port whose enable set holds it (R210). -/
def loadPosting (posted : Bool) (k : NoticeKind) (enable : BitVec 21) : BitVec 21 :=
  if posted && hasKind enable k then k.bit else 0

/-- A unit record was lost (R151). -/
def LoadReport.lostUnit (r : LoadReport) : Bool := r.units.cells.any fun o => decide (o = .lost)

/-- The notices of a port after the load (R210). -/
def coldNotices (report : LoadReport) (x : NoticeSettings) : Notices :=
  { pending := NoticeKind.coldStart.bit ||| loadPosting (!report.settingsLoaded) .settingsDefaulted x.enable
      ||| loadPosting report.lostUnit .tallyLost x.enable,
    holdoff := none, attention := true }

/-- The Time Base after the load (R27). -/
def coldClock (s : State) : TimeBase :=
  { TimeBase.reset with trim := clampTrim s.store.loadTime.trim, epoch := s.store.loadTime.epoch }

/-- The Time Line Controller after the load (R63). -/
def coldLine (s : State) : TimeLine :=
  { TimeLine.reset with highSince := if s.pins.timeLine = .high then some 0 else none }

/-- Every block after the load of the store, with the settings loaded (R150 to R153). -/
def coldBlocks (s : State) : State :=
  { s with
    clk := coldClock s, mq := .reset, tl := coldLine s, inputs := .ofFn (coldInput s), log := .reset, bursts := .reset,
    units := .ofFn (coldUnit s), store := s.store.afterLoad,
    supply := { SupplyMonitor.reset with cellLost := Config.cellLost s.draws }, shift := coldShift s,
    notices := ⟨coldNotices s.store.report s.settings.notice.a, coldNotices s.store.report s.settings.notice.b,
      coldNotices s.store.report s.settings.notice.c⟩,
    draws := s.draws + 1 }

/-- The cold start of a part without power whose supply stands at the restore threshold (R150). -/
def coldStart (s : State) : State :=
  coldBlocks (freeLocks (stopPorts { s with settings := s.store.loadSettings }))

/-! ### The part without power (R148) -/

/-- What the store keeps without power: its records (R134, R148). -/
def TallyStore.recordsOnly (t : TallyStore) : TallyStore :=
  { TallyStore.reset with
    timeRecord := t.timeRecord, unitRecords := t.unitRecords, shiftContent := t.shiftContent,
    settingsRecord := t.settingsRecord, slots := t.slots, interval := none, hourly := none }

/-- The notices of a part that waits for its cold start: COLD_START asserted while the part has power, nothing without (R202,
R210). DESIGN CHOICE (log entry 26): it has power while the supply stands at the low threshold or above. -/
def waitingNotices (band : SupplyBand) : PerPort Notices :=
  let n : Notices :=
    if band = .belowLow then { pending := 0, holdoff := none, attention := false }
    else { pending := NoticeKind.coldStart.bit, holdoff := none, attention := true }
  ⟨n, n, n⟩

/-- The part stops: working memory is lost, and the store records, the lines and the waiting commands stand (R148). -/
def stopPart (s : State) : State :=
  stopPorts
    { State.reset with
      tl := { TimeLine.reset with highSince := none }, store := s.store.recordsOnly,
      supply := { SupplyMonitor.reset with state := .retain, stopped := true, cellLost := true },
      ports := s.ports, notices := waitingNotices s.pins.supply, pins := s.pins, pending := s.pending, draws := s.draws }

end Sys2Proof.Machine
end

