-- ==== Sys2Proof/Machine/Supply.lean ====
section
/-! DEFINITION. The Supply Monitor: the supply states and their crossings, RETAIN entry, the warm start, the line reset, the
commands of the store (chapter 7, R197). -/

namespace Sys2Proof.Machine

/-! ### Crossings of the thresholds (R144) -/

/-- SUPPLY_SENSE moves to a level (section 7.4). A part that waits for its cold start signals while it has power (R210). -/
def moveSupply (band : SupplyBand) (s : State) : State :=
  { s with
    pins := { s.pins with supply := band }
    notices := if s.supply.stopped then waitingNotices band else s.notices }

/-- The restore timer set or stopped (R144). -/
def setRestore (x : Option Reading) (s : State) : State := { s with supply := { s.supply with restore := x } }

/-- The supply stands below the warning threshold. -/
def belowWarning (s : State) : Bool := decide (s.pins.supply = .belowLow ∨ s.pins.supply = .belowWarning)

/-- The part is powered, so that its Supply Monitor acts. -/
def powered (s : State) : Bool := !s.supply.stopped

/-- SUPPLY_RESTORE_RISE: the restore timer starts in WARNING and in RETAIN (R144). -/
def restoreRises (s : State) : State :=
  if s.pins.supply = .atRestore then s
  else
    let t := moveSupply .atRestore s
    if powered s = true ∧ s.supply.state ≠ .normal then setRestore (some (now s)) t else t

/-- SUPPLY_RESTORE_FALL: the restore timer stops (R144). -/
def restoreFalls (s : State) : State :=
  if s.pins.supply ≠ .atRestore then s else setRestore none (moveSupply .belowRestore s)

/-- The restore timer has run its 100 ms (R144). -/
def restoreReached (s : State) : Bool := powered s && reached s s.supply.restore Config.restore

/-! ### WARNING (R145, R146) -/

/-- Entry to WARNING: the warning count, and the queue in emergency order (R145). -/
def enterWarning (s : State) : State :=
  { s with
    supply := { s.supply with state := .warning, warnings := satSucc top16 s.supply.warnings, restore := none }
    store := { s.store with queue := emergencyQueue s } }

/-- WARNING_ENTRY: the supply falls below the warning threshold (R144, R145). In NORMAL the programs then run from the head;
in another state the fall only stops the restore timer. -/
def warningFall (s : State) : State :=
  if belowWarning s then s
  else
    let t := moveSupply .belowWarning s
    if powered s = true ∧ s.supply.state = .normal then startProgram (enterWarning t) else setRestore none t

/-- RETURN_TO_NORMAL can come: the restore timer has run out in WARNING (R144). -/
def returnDue (s : State) : Bool := decide (s.supply.state = .warning) && restoreReached s

/-- RETURN_TO_NORMAL (R146). -/
def returnToNormal (s : State) : State :=
  if returnDue s = false then s
  else clearEmergency { s with supply := { s.supply with state := .normal, restore := none } }

/-! ### RETAIN (R147, R148) -/

/-- The gap start stamp of now (R147). -/
def gapStartNow (s : State) : GapStart :=
  { time := s.clk.time, epoch := s.clk.epoch, grade := gradeNow s, u := reportedU s }

/-- The gap start stamp recorded and the supply state RETAIN (R147). -/
def openGap (s : State) : State :=
  { s with supply := { s.supply with state := .retain, restore := none, gapStart := some (gapStartNow s) } }

/-- RETAIN entry handed to every block, each as its own chapter gives (R147). -/
def retainBlocks (s : State) : State :=
  stopPorts (retainNotices (retainShift (retainUnits (retainBursts (retainInputs (retainLine (retainMarks (retainClock
    (tearStore s)))))))))

/-- Entry to RETAIN from WARNING (R147); a cell already lost stops the part at once (R148). -/
def enterRetain (s : State) : State :=
  let t := retainBlocks (openGap s)
  if t.supply.cellLost then stopPart t else t

/-- RETAIN_ENTRY: the supply falls below the low threshold (R144, R147). From NORMAL, WARNING is entered first, with no time
for a program. In RETAIN the fall only stops the restore timer. -/
def lowFall (s : State) : State :=
  if s.pins.supply = .belowLow then s
  else
    let t := moveSupply .belowLow s
    if powered s = false then t
    else
      match s.supply.state with
      | .normal => enterRetain (enterWarning t)
      | .warning => enterRetain t
      | .retain => setRestore none t

/-- BACKUP_CELL_LOST: in RETAIN the part stops; else the loss waits for the next RETAIN entry (R148). -/
def loseCell (s : State) : State :=
  if s.supply.stopped then s
  else if s.supply.state = .retain then stopPart s
  else { s with supply := { s.supply with cellLost := true } }

/-! ### The warm start (R149) -/

/-- WARM_START can come: the restore timer has run out in RETAIN (R144). -/
def warmDue (s : State) : Bool := decide (s.supply.state = .retain) && restoreReached s

/-- The SUPPLY_GAP entry (R149). -/
def recordGap (s : State) : State :=
  makeEntry
    (.supplyGap ((s.supply.gapStart.getD (gapStartNow s)).time.stamp) s.clk.time.stamp s.supply.incomplete)
    (stampNow s) s

/-- The warm start handed to the blocks (R28, R43, R62, R81, R131, R149, R179, R198). -/
def warmBlocks (s : State) : State :=
  freeLocks (stopPorts (repairStore (warmShift (warmUnits (warmInputs (warmLine (warmMarks (warmClock s))))))))

/-- The gap start stamp and the store-incomplete flag are cleared (R149). -/
def closeGap (s : State) : State := { s with supply := { s.supply with gapStart := none, incomplete := false } }

/-- WARM_START (R149). -/
def warmStart (s : State) : State :=
  if warmDue s = false then s
  else
    let t : State := { s with supply := { s.supply with state := .normal, restore := none } }
    closeGap (warmBlocks (recordGap (startNotices .supplyReturn t)))

/-! ### The cold start and the line reset (R150, R197) -/

/-- COLD_START: the part stands without power with its supply at the restore threshold (R150). -/
def powerUp (s : State) : State :=
  if s.supply.stopped = true ∧ s.pins.supply = .atRestore then coldStart s else s

/-- The effects of a line reset (R29, R197, R209). -/
def resetPorts (s : State) : State :=
  startNotices .lineReset (freeLocks (stopPorts { s with clk := { s.clk with slot := none } }))

/-- LINE_RESET: RESET_N falls; in RETAIN it has no further effect (R197). -/
def lineReset (s : State) : State :=
  if s.pins.resetN = .low then s
  else
    let t : State := { s with pins := { s.pins with resetN := .low } }
    if working s then resetPorts t else t

/-- RESET_N_RISE (R197). -/
def resetRises (s : State) : State := { s with pins := { s.pins with resetN := .high } }

/-! ### Commands of the store (R143, R154) -/

/-- SET COMMIT INTERVAL (R143): I is used from the next restart of the interval timer. -/
def setCommitInterval (p : Port) (args : List Byte) (s : State) : Reply :=
  let n := argNumber args 0 2
  unlessLocked p .tally
    (fun s =>
      { state := { s with settings := { s.settings with tally := { s.settings.tally with
          commitInterval := clampNat 60 3600 n } } }
        status := clampedStatus (outside 60 3600 n) })
    s

/-- The copy that the program in progress writes (R138). -/
def targetOf (s : State) : Option (RecordId × CopyNo × Reading) :=
  s.store.program.map fun p => (p.content.record, p.copy, p.start)

/-- The validity that READ STORE shows for a copy: open while a program writes it (R138, log entry 12). -/
def shownValid (s : State) (r : RecordId) (c : CopyNo) (valid : Bool) : Bool :=
  match targetOf s with
  | none => valid
  | some (r', c', start) => if r' = r ∧ c' = c then Config.targetShown start else valid

/-- The copies of a two-copy record (R154). -/
def copiesSample {α : Type} (s : State) (r : RecordId) (t : TwoCopy α) : CopiesSample :=
  { validOne := shownValid s r .one t.one.valid, counterOne := t.one.counter,
    validTwo := shownValid s r .two t.two.valid, counterTwo := t.two.counter }

/-- The program in progress writes a slot (R136). -/
def writesSlot (s : State) (k : Fin 16) : Option Reading :=
  match s.store.program with
  | none => none
  | some p =>
    match p.content with
    | .shiftRecord (some r) => if slotOf r.number = k then some p.start else none
    | _ => none

/-- The whole seconds left of an interval (R154). -/
def secondsLeft (s : State) (i : Option Interval) : Nat :=
  match i with
  | none => 0
  | some x => (x.length - since s x.start) / Config.second

/-- What READ STORE samples (R154). -/
def storeSample (s : State) : StoreSample :=
  { supply := s.supply.state, warnings := s.supply.warnings,
    program := s.store.program.map fun p =>
      let two := p.content.record.twoCopies
      { record := p.content.record, copy := if two then some p.copy else none, counter := if two then some p.counter else none,
        retry := p.retry, age := since s p.start / Config.milli },
    queue := s.store.queue, time := copiesSample s .time s.store.timeRecord,
    units := .ofFn fun u => copiesSample s (.unit u) (s.store.unitRecords.get u),
    currentShift := copiesSample s .currentShift s.store.shiftContent,
    settingsValid := shownValid s .settings .one s.store.settingsRecord.valid,
    slotsValid := .ofFn fun k =>
      match writesSlot s k with
      | none => (s.store.slots.get k).valid
      | some start => Config.targetShown start,
    counts := s.store.counts, load := s.store.load, commitInterval := s.settings.tally.commitInterval,
    intervalLeft := secondsLeft s s.store.interval,
    hourlyLeft := secondsLeft s (s.store.hourly.map fun r => { start := r, length := Config.hour }) }

end Sys2Proof.Machine
end

