-- ==== Sys2Proof/Machine/Clock.lean ====
section
/-! DEFINITION. One oscillator period: the counting of ticks (R1 to R3), what the blocks do by time alone, and the events that
have fallen due. -/

namespace Sys2Proof.Machine

/-! ### Counting (R1 to R3) -/

/-- The elapsed base advanced by at most two ticks (R2). -/
def TimeBase.elapse (c : TimeBase) (ticks : Nat) : TimeBase :=
  let total := c.elapsedTicks + ticks
  { c with
    elapsedTicks := if total < Config.second then total else total - Config.second
    elapsedSeconds := if total < Config.second then c.elapsedSeconds else c.elapsedSeconds + 1
    tenths := c.tenths + (total / Config.tenth - c.elapsedTicks / Config.tenth) }

/-- Station time advanced by at most two ticks, with a boundary issued at a wrap (R1). -/
def TimeBase.count (c : TimeBase) (ticks : Nat) : TimeBase :=
  { c with
    time := c.time.advance ticks
    boundaries := if c.time.wraps ticks then c.boundaries + 1 else c.boundaries }

/-- One oscillator period in the Time Base (R3). -/
def TimeBase.period (c : TimeBase) : TimeBase :=
  (({ c with acc := (accumulate c.acc c.effTrim).1 }).elapse (accumulate c.acc c.effTrim).2).count
    (accumulate c.acc c.effTrim).2

/-! ### What the blocks do by time alone -/

/-- The line-free count of a line that stays high (R45). -/
def growFree (s : State) : State :=
  match s.tl.highSince with
  | none => s
  | some r =>
    { s with tl := { s.tl with
        freeCount := max s.tl.freeCount (min Config.lineFree (since s r / Config.bitPeriod)) } }

/-- What no row of the table stands for (R30, R45, R47, R48, R51): the recogniser's WAIT_LOW, the line's level as the part goes on
from bit to bit with the count that follows it, the start bit and the bits read, AWAIT_HIGH. `was` is the line's level before
the period. -/
def settleLines (was : Level) (s : State) : State :=
  if working s then settleReceiver (readBit (settleStart (growFree (followLine was (settleRecogniser s))))) else s

/-! ### The events that have fallen due -/

/-- An event, when it is due. -/
def whenDue (due : Bool) (e : Instr) : List Instr := if due then [e] else []

/-- The part's own events that are due now, in the order of the table. -/
def dueEvents (s : State) : List Instr :=
  whenDue (decide (s.clk.boundaries ≠ 0)) .stationSecondBoundary
    ++ whenDue (pulseDue s) .secOutPulseEnd
    ++ whenDue (decide (s.clk.tenths ≠ 0)) .elapsedTenth
    ++ whenDue (edgeDue s) (.fibrePhaseEdge .stands)
    ++ whenDue (timeoutDue s) .patternTimeout
    ++ whenDue (completeDue s) .patternComplete
    ++ whenDue (silenceDue s) .markSilenceExpiry
    ++ whenDue (growthDue s) .holdoverGrowth
    ++ whenDue (fibrePresenceDue s) .fibrePresenceExpiry
    ++ whenDue (peerPresenceDue s) .peerPresenceExpiry
    ++ whenDue (telegramEnd s).isSome (.telegramJudged s.tl.readBits)
    ++ whenDue (brokenStartDue s) .brokenStartBit
    ++ whenDue (sentDue s) .telegramSent
    ++ whenDue (lossDue s) .arbitrationLoss
    ++ whenDue (clashDue s) .idClash
    ++ (List.finRange 16).flatMap (fun i => whenDue (qualified .qualifying i s).isSome (.assertQualifies i))
    ++ (List.finRange 16).flatMap (fun i => whenDue (qualified .releasing i s).isSome (.releaseQualifies i))
    ++ whenDue (windowCloseDue s) .firstOutWindowClose
    ++ whenDue (gapDue s) .burstGapExpiry
    ++ allUnits.flatMap (fun u => whenDue (settleDue u s) (.settleExpiry u))
    ++ whenDue (programMustEnd s) (.programEnd (Config.verifyOutcome s.draws))
    ++ whenDue (intervalDue s) .intervalTimerExpiry
    ++ whenDue (hourlyDue s) .hourlyTimerExpiry
    ++ whenDue (returnDue s) .returnToNormal
    ++ whenDue (warmDue s) .warmStart
    ++ whenDue (windowDue s) .handoverWindowExpiry
    ++ whenDue (bellDue s) .bellPulseEnd
    ++ [Port.a, Port.b, Port.c].flatMap (fun p => whenDue (holdoffDue p s) (.holdoffExpiry p))

/-- One oscillator period of the part (log entry 1): the ticks are counted, and the events then due are put in the queue, the
draw of a verify's outcome counted. A part without power stands still. -/
def tick (s : State) : State :=
  if s.supply.stopped then s
  else
    let s := settleLines (lineLevel s) { s with clk := s.clk.period }
    { s with pending := s.pending ++ dueEvents s, draws := s.draws + (if programMustEnd s then 1 else 0) }

end Sys2Proof.Machine
end

