-- ==== Sys2Proof/Machine/Meanings.lean ====
section
/-! DEFINITION. The meaning of each row of spec/opcode_table.json, over the operations of the blocks. A port's command carries
its argument length (section 11.9). -/

namespace Sys2Proof.Machine

/-- The outcome of a row: every row has a next state. -/
abbrev Outcome := Host.Outcome State Fault Refusal

/-- STATION_SECOND_BOUNDARY (R1). -/
def execStationSecondBoundary (s : State) : Outcome := .next (stationBoundary s)

/-- SEC_OUT_PULSE_END (R23). -/
def execSecOutPulseEnd (s : State) : Outcome := .next (endPulse s)

/-- ELAPSED_TENTH (R120). -/
def execElapsedTenth (s : State) : Outcome := .next (takeTenth s)

/-- FIBRE_PHASE_EDGE (R30). -/
def execFibrePhaseEdge (change : FibreChange) (s : State) : Outcome := .next (fibreEdge change s)

/-- PATTERN_TIMEOUT (R31). -/
def execPatternTimeout (s : State) : Outcome := .next (expirePattern s)

/-- PATTERN_COMPLETE (R32). -/
def execPatternComplete (s : State) : Outcome := .next (completePattern s)

/-- MARK_SILENCE_EXPIRY (R16). -/
def execMarkSilenceExpiry (s : State) : Outcome := .next (expireSilence s)

/-- HOLDOVER_GROWTH (R19). -/
def execHoldoverGrowth (s : State) : Outcome := .next (growHoldover s)

/-- FIBRE_PRESENCE_EXPIRY (R38). -/
def execFibrePresenceExpiry (s : State) : Outcome := .next (expireFibrePresence s)

/-- PEER_PRESENCE_EXPIRY (R38). -/
def execPeerPresenceExpiry (s : State) : Outcome := .next (expirePeerPresence s)

/-- READ_CLOCK (R24). -/
def execReadClock (p : Port) (args : List Byte) (s : State) : Outcome :=
  .next (carryOut p args (fits args 0) (fun s => { state := s, status := .done, result := .clock (clockSample s) }) s)

/-- SET_CLOCK (R25). -/
def execSetClock (p : Port) (args : List Byte) (s : State) : Outcome :=
  .next (carryOut p args (fits args 13) (fun s => setClock p args s) s)

/-- SET_DATE (R20). -/
def execSetDate (p : Port) (args : List Byte) (s : State) : Outcome :=
  .next (carryOut p args (fits args 5) (fun s => setDate p args s) s)

/-- READ_SOURCE (R40). -/
def execReadSource (p : Port) (args : List Byte) (s : State) : Outcome :=
  .next (carryOut p args (fits args 0) (fun s => { state := s, status := .done, result := .source (sourceSample s) }) s)

/-- REARM_SOURCE (R36). -/
def execRearmSource (p : Port) (args : List Byte) (s : State) : Outcome :=
  .next (carryOut p args (fits args 0) (fun s => rearmSource s) s)

/-- SET_MARK_WINDOW (R41). -/
def execSetMarkWindow (p : Port) (args : List Byte) (s : State) : Outcome :=
  .next (carryOut p args (fits args 4) (fun s => setMarkWindow p args s) s)

/-- SET_LINE_MARKS (R42). -/
def execSetLineMarks (p : Port) (args : List Byte) (s : State) : Outcome :=
  .next (carryOut p args (fits args 3) (fun s => setLineMarks p args s) s)

/-- TELEGRAM_JUDGED (R48). -/
def execTelegramJudged (bits : List Bool) (s : State) : Outcome := .next (receiveTelegram bits s)

/-- BROKEN_START_BIT (R47). -/
def execBrokenStartBit (s : State) : Outcome := .next (breakStart s)

/-- TELEGRAM_SENT (R51). -/
def execTelegramSent (s : State) : Outcome := .next (completeSend s)

/-- ARBITRATION_LOSS (R52). -/
def execArbitrationLoss (s : State) : Outcome := .next (loseArbitration s)

/-- ID_CLASH (R53). -/
def execIdClash (s : State) : Outcome := .next (clashId s)

/-- SEND_FAULT (R53). -/
def execSendFault (s : State) : Outcome := .next (failSend s)

/-- SET_LINE_ROLE (R56). -/
def execSetLineRole (p : Port) (args : List Byte) (s : State) : Outcome :=
  .next (carryOut p args (fits args 1) (fun s => setLineRole p args s) s)

/-- SET_LINE (R57). -/
def execSetLine (p : Port) (args : List Byte) (s : State) : Outcome :=
  .next (carryOut p args (fits args 4) (fun s => setLine p args s) s)

/-- READ_LINE (R60). -/
def execReadLine (p : Port) (args : List Byte) (s : State) : Outcome :=
  .next (carryOut p args (fits args 1) (fun s => readLine args s) s)

/-- TRIP_LEADING_EDGE (R66). -/
def execTripLeadingEdge (i : Fin 16) (s : State) : Outcome := .next (leadingEdge i s)

/-- TRIP_TRAILING_EDGE (R68). -/
def execTripTrailingEdge (i : Fin 16) (s : State) : Outcome := .next (trailingEdge i s)

/-- ASSERT_QUALIFIES (R67). -/
def execAssertQualifies (i : Fin 16) (s : State) : Outcome := .next (qualifyAssert i s)

/-- RELEASE_QUALIFIES (R68). -/
def execReleaseQualifies (i : Fin 16) (s : State) : Outcome := .next (qualifyRelease i s)

/-- ALLOW_INPUT (R73). -/
def execAllowInput (p : Port) (args : List Byte) (s : State) : Outcome :=
  .next (carryOut p args (fits args 1) (fun s => allowInput args s) s)

/-- SET_INPUT (R76). -/
def execSetInput (p : Port) (args : List Byte) (s : State) : Outcome :=
  .next (carryOut p args (fits args 7) (fun s => setInput p args s) s)

/-- SET_CHATTER_INTERVAL (R77). -/
def execSetChatterInterval (p : Port) (args : List Byte) (s : State) : Outcome :=
  .next (carryOut p args (fits args 2) (fun s => setChatterInterval p args s) s)

/-- READ_INPUTS (R78). -/
def execReadInputs (p : Port) (args : List Byte) (s : State) : Outcome :=
  .next (carryOut p args (fits args 0) (fun s => { state := s, status := .done, result := .levels (levelsSample s) }) s)

/-- READ_INPUT (R79). -/
def execReadInput (p : Port) (args : List Byte) (s : State) : Outcome :=
  .next (carryOut p args (fits args 1) (fun s => readInput args s) s)

/-- READ_LOG (R87). -/
def execReadLog (p : Port) (args : List Byte) (s : State) : Outcome :=
  .next (carryOut p args (fits args 1) (fun s => readLog p (argNumber args 0 1) s) s)

/-- SEEK_LOG (R88). -/
def execSeekLog (p : Port) (args : List Byte) (s : State) : Outcome :=
  .next (carryOut p args (fits args 2) (fun s => seekLog p (BitVec.ofNat 16 (argNumber args 0 2)) s) s)

/-- READ_LOG_STATE (R89). -/
def execReadLogState (p : Port) (args : List Byte) (s : State) : Outcome :=
  .next (carryOut p args (fits args 0) (fun s => { state := s, status := .done, result := .logState (logState s) }) s)

/-- FIRST_OUT_WINDOW_CLOSE (R96). -/
def execFirstOutWindowClose (s : State) : Outcome := .next (closeWindow s)

/-- BURST_GAP_EXPIRY (R97). -/
def execBurstGapExpiry (s : State) : Outcome := .next (judgeGap s)

/-- ACK_BURST (R102). -/
def execAckBurst (p : Port) (args : List Byte) (s : State) : Outcome :=
  .next (carryOut p args (fits args 2) (fun s => ackBurst p (BitVec.ofNat 16 (argNumber args 0 2)) s) s)

/-- LIST_BURSTS (R105). -/
def execListBursts (p : Port) (args : List Byte) (s : State) : Outcome :=
  .next (carryOut p args (fits args 0) (fun s => { state := s, status := .done, result := .bursts (burstList s) }) s)

/-- READ_BURST (R106). -/
def execReadBurst (p : Port) (args : List Byte) (s : State) : Outcome :=
  .next (carryOut p args (fits args 2) (fun s => readBurst (BitVec.ofNat 16 (argNumber args 0 2)) s) s)

/-- SET_FILTER (R107). -/
def execSetFilter (p : Port) (args : List Byte) (s : State) : Outcome :=
  .next (carryOut p args (fits args 6) (fun s => setFilter p args s) s)

/-- SET_BURST_GAP (R108). -/
def execSetBurstGap (p : Port) (args : List Byte) (s : State) : Outcome :=
  .next (carryOut p args (fits args 2) (fun s => setBurstGap p args s) s)

/-- READ_FILTERS (R109). -/
def execReadFilters (p : Port) (args : List Byte) (s : State) : Outcome :=
  .next (carryOut p args (fits args 0) (fun s => { state := s, status := .done, result := .filters (filterSample s) }) s)

/-- UNIT_CODE_CHANGE (R114). -/
def execUnitCodeChange (u : Fin 8) (code : BitVec 4) (s : State) : Outcome := .next (changeCode u code s)

/-- SETTLE_EXPIRY (R115). -/
def execSettleExpiry (u : Fin 8) (s : State) : Outcome := .next (expireSettle u s)

/-- SET_MODE_TABLE (R116). -/
def execSetModeTable (p : Port) (args : List Byte) (s : State) : Outcome :=
  .next (carryOut p args (fits args 16) (fun s => setModeTable p args s) s)

/-- SET_UNITS (R117). -/
def execSetUnits (p : Port) (args : List Byte) (s : State) : Outcome :=
  .next (carryOut p args (fits args 4) (fun s => setUnits p args s) s)

/-- SET_SERVICE_LIMIT (R125). -/
def execSetServiceLimit (p : Port) (args : List Byte) (s : State) : Outcome :=
  .next (carryOut p args (fits args 5) (fun s => setServiceLimit p args s) s)

/-- PRESET_TALLY (R126). -/
def execPresetTally (p : Port) (args : List Byte) (s : State) : Outcome :=
  .next (carryOut p args (fits args 6) (fun s => presetTally p args s) s)

/-- READ_UNIT (R127). -/
def execReadUnit (p : Port) (args : List Byte) (s : State) : Outcome :=
  .next (carryOut p args (fits args 1) (fun s => readUnit args s) s)

/-- READ_UNITS (R128). -/
def execReadUnits (p : Port) (args : List Byte) (s : State) : Outcome :=
  .next
    (carryOut p args (fits args 0)
      (fun s => { state := s, status := .done, result := .units (.ofFn (unitSummary s)) }) s)

/-- READ_MODE_TABLE (R129). -/
def execReadModeTable (p : Port) (args : List Byte) (s : State) : Outcome :=
  .next (carryOut p args (fits args 0) (fun s => { state := s, status := .done, result := .table (tableSample s) }) s)

/-- PROGRAM_END (R139). -/
def execProgramEnd (verified : Bool) (s : State) : Outcome := .next (endProgram verified s)

/-- INTERVAL_TIMER_EXPIRY (R141). -/
def execIntervalTimerExpiry (s : State) : Outcome := .next (expireInterval s)

/-- HOURLY_TIMER_EXPIRY (R142). -/
def execHourlyTimerExpiry (s : State) : Outcome := .next (expireHourly s)

/-- SET_COMMIT_INTERVAL (R143). -/
def execSetCommitInterval (p : Port) (args : List Byte) (s : State) : Outcome :=
  .next (carryOut p args (fits args 2) (fun s => setCommitInterval p args s) s)

/-- READ_STORE (R154). -/
def execReadStore (p : Port) (args : List Byte) (s : State) : Outcome :=
  .next (carryOut p args (fits args 0) (fun s => { state := s, status := .done, result := .store (storeSample s) }) s)

/-- WARNING_ENTRY (R145). -/
def execWarningEntry (s : State) : Outcome := .next (warningFall s)

/-- SUPPLY_RESTORE_RISE (R144). -/
def execSupplyRestoreRise (s : State) : Outcome := .next (restoreRises s)

/-- SUPPLY_RESTORE_FALL (R144). -/
def execSupplyRestoreFall (s : State) : Outcome := .next (restoreFalls s)

/-- RETURN_TO_NORMAL (R146). -/
def execReturnToNormal (s : State) : Outcome := .next (returnToNormal s)

/-- RETAIN_ENTRY (R147). -/
def execRetainEntry (s : State) : Outcome := .next (lowFall s)

/-- WARM_START (R149). -/
def execWarmStart (s : State) : Outcome := .next (warmStart s)

/-- BACKUP_CELL_LOST (R148). -/
def execBackupCellLost (s : State) : Outcome := .next (loseCell s)

/-- COLD_START (R150). -/
def execColdStart (s : State) : Outcome := .next (powerUp s)

/-- HANDOVER_WINDOW_EXPIRY (R165). -/
def execHandoverWindowExpiry (s : State) : Outcome := .next (judgeWindow s)

/-- BELL_PULSE_END (R174). -/
def execBellPulseEnd (s : State) : Outcome := .next (endBell s)

/-- OPEN_HANDOVER (R164). -/
def execOpenHandover (p : Port) (args : List Byte) (s : State) : Outcome :=
  .next (carryOut p args (fits args 0) (fun s => openHandover p s) s)

/-- RELEASE_SHIFT (R166). -/
def execReleaseShift (p : Port) (args : List Byte) (s : State) : Outcome :=
  .next (carryOut p args (fits args 0) (fun s => releaseShift p s) s)

/-- ACCEPT_SHIFT (R167). -/
def execAcceptShift (p : Port) (args : List Byte) (s : State) : Outcome :=
  .next (carryOut p args (fits args 1) (fun s => acceptShift p (argNumber args 0 1) s) s)

/-- FORCE_HANDOVER (R169). -/
def execForceHandover (p : Port) (args : List Byte) (s : State) : Outcome :=
  .next (carryOut p args (fits args 1) (fun s => forceHandover p (argNumber args 0 1) s) s)

/-- CANCEL_HANDOVER (R170). -/
def execCancelHandover (p : Port) (args : List Byte) (s : State) : Outcome :=
  .next (carryOut p args (fits args 0) (fun s => cancelHandover s) s)

/-- SET_SCHEDULE (R160). -/
def execSetSchedule (p : Port) (args : List Byte) (s : State) : Outcome :=
  .next (carryOut p args (scheduleLengthFits args) (fun s => setSchedule p args s) s)

/-- SET_SHIFT_TIMES (R177). -/
def execSetShiftTimes (p : Port) (args : List Byte) (s : State) : Outcome :=
  .next (carryOut p args (fits args 2) (fun s => setShiftTimes p args s) s)

/-- READ_SHIFT (R175). -/
def execReadShift (p : Port) (args : List Byte) (s : State) : Outcome :=
  .next (carryOut p args (fits args 0) (fun s => { state := s, status := .done, result := .shift (shiftSample s) }) s)

/-- READ_SHIFT_RECORD (R176). -/
def execReadShiftRecord (p : Port) (args : List Byte) (s : State) : Outcome :=
  .next (carryOut p args (fits args 2) (fun s => readShiftRecord (argNumber args 0 2) s) s)

/-- FETCH (R185). -/
def execFetch (p : Port) (lengthByte : Byte) (clocked : List Bool) (s : State) : Outcome :=
  .next (fetchFrame p lengthByte clocked s)

/-- BROKEN_FRAME (R183). -/
def execBrokenFrame (p : Port) (edges : Nat) (bytes : List Byte) (s : State) : Outcome :=
  .next (brokenFrame p (clockedBits edges bytes) s)

/-- UNKNOWN_COMMAND (R188). -/
def execUnknownCommand (p : Port) (code : Byte) (args : List Byte) (s : State) : Outcome :=
  .next (unknownCommand p code args s)

/-- SAVE_SETTINGS (R195). -/
def execSaveSettings (p : Port) (args : List Byte) (s : State) : Outcome := .next (saveSettings p args s)

/-- READ_PORTS (R196). -/
def execReadPorts (p : Port) (args : List Byte) (s : State) : Outcome :=
  .next (carryOut p args (fits args 0) (fun s => { state := s, status := .done, result := .ports (portsSample s) }) s)

/-- LOCK_GROUP (R192). -/
def execLockGroup (p : Port) (args : List Byte) (s : State) : Outcome :=
  .next (carryOut p args (fits args 1) (fun s => lockGroup p args s) s)

/-- UNLOCK_GROUP (R193). -/
def execUnlockGroup (p : Port) (args : List Byte) (s : State) : Outcome :=
  .next (carryOut p args (fits args 1) (fun s => unlockGroup p args s) s)

/-- LINE_RESET (R197). -/
def execLineReset (s : State) : Outcome := .next (lineReset s)

/-- RESET_N_RISE (R197). -/
def execResetNRise (s : State) : Outcome := .next (resetRises s)

/-- CLEAR_NOTICES (R203). -/
def execClearNotices (p : Port) (args : List Byte) (s : State) : Outcome :=
  .next (carryOut p args (fits args 3) (fun s => clearNotices p args s) s)

/-- HOLDOFF_EXPIRY (R204). -/
def execHoldoffExpiry (p : Port) (s : State) : Outcome := .next (expireHoldoff p s)

/-- SET_NOTICES (R205). -/
def execSetNotices (p : Port) (args : List Byte) (s : State) : Outcome :=
  .next (carryOut p args (fits args 8) (fun s => setNotices p args s) s)

/-- READ_NOTICES (R206). -/
def execReadNotices (p : Port) (args : List Byte) (s : State) : Outcome :=
  .next (carryOut p args (fits args 1) (fun s => readNotices args s) s)

/-- START_EDGE (R47). -/
def execStartEdge (s : State) : Outcome := .next (fallLine s)

/-- TIME_LINE_RISE (R47). -/
def execTimeLineRise (s : State) : Outcome := .next (raiseLine s)

/-- SELECT_FALL (R182). -/
def execSelectFall (p : Port) (s : State) : Outcome := .next (selectFalls p s)

end Sys2Proof.Machine
end

