-- ==== Sys2Proof/Machine/Dispatch.lean ====
section
/-! DEFINITION. exec: one arm for each row of spec/opcode_table.json. -/

namespace Sys2Proof.Machine

def exec (i : Instr) (s : State) : Host.Outcome State Fault Refusal :=
  match i with
  | .stationSecondBoundary => Sys2Proof.Machine.execStationSecondBoundary s
  | .secOutPulseEnd => Sys2Proof.Machine.execSecOutPulseEnd s
  | .elapsedTenth => Sys2Proof.Machine.execElapsedTenth s
  | .fibrePhaseEdge change => Sys2Proof.Machine.execFibrePhaseEdge change s
  | .patternTimeout => Sys2Proof.Machine.execPatternTimeout s
  | .patternComplete => Sys2Proof.Machine.execPatternComplete s
  | .markSilenceExpiry => Sys2Proof.Machine.execMarkSilenceExpiry s
  | .holdoverGrowth => Sys2Proof.Machine.execHoldoverGrowth s
  | .fibrePresenceExpiry => Sys2Proof.Machine.execFibrePresenceExpiry s
  | .peerPresenceExpiry => Sys2Proof.Machine.execPeerPresenceExpiry s
  | .readClock p args => Sys2Proof.Machine.execReadClock p args s
  | .setClock p args => Sys2Proof.Machine.execSetClock p args s
  | .setDate p args => Sys2Proof.Machine.execSetDate p args s
  | .readSource p args => Sys2Proof.Machine.execReadSource p args s
  | .rearmSource p args => Sys2Proof.Machine.execRearmSource p args s
  | .setMarkWindow p args => Sys2Proof.Machine.execSetMarkWindow p args s
  | .setLineMarks p args => Sys2Proof.Machine.execSetLineMarks p args s
  | .telegramJudged bits => Sys2Proof.Machine.execTelegramJudged bits s
  | .brokenStartBit => Sys2Proof.Machine.execBrokenStartBit s
  | .telegramSent => Sys2Proof.Machine.execTelegramSent s
  | .arbitrationLoss => Sys2Proof.Machine.execArbitrationLoss s
  | .idClash => Sys2Proof.Machine.execIdClash s
  | .sendFault => Sys2Proof.Machine.execSendFault s
  | .setLineRole p args => Sys2Proof.Machine.execSetLineRole p args s
  | .setLine p args => Sys2Proof.Machine.execSetLine p args s
  | .readLine p args => Sys2Proof.Machine.execReadLine p args s
  | .tripLeadingEdge k => Sys2Proof.Machine.execTripLeadingEdge k s
  | .tripTrailingEdge k => Sys2Proof.Machine.execTripTrailingEdge k s
  | .assertQualifies k => Sys2Proof.Machine.execAssertQualifies k s
  | .releaseQualifies k => Sys2Proof.Machine.execReleaseQualifies k s
  | .allowInput p args => Sys2Proof.Machine.execAllowInput p args s
  | .setInput p args => Sys2Proof.Machine.execSetInput p args s
  | .setChatterInterval p args => Sys2Proof.Machine.execSetChatterInterval p args s
  | .readInputs p args => Sys2Proof.Machine.execReadInputs p args s
  | .readInput p args => Sys2Proof.Machine.execReadInput p args s
  | .readLog p args => Sys2Proof.Machine.execReadLog p args s
  | .seekLog p args => Sys2Proof.Machine.execSeekLog p args s
  | .readLogState p args => Sys2Proof.Machine.execReadLogState p args s
  | .firstOutWindowClose => Sys2Proof.Machine.execFirstOutWindowClose s
  | .burstGapExpiry => Sys2Proof.Machine.execBurstGapExpiry s
  | .ackBurst p args => Sys2Proof.Machine.execAckBurst p args s
  | .listBursts p args => Sys2Proof.Machine.execListBursts p args s
  | .readBurst p args => Sys2Proof.Machine.execReadBurst p args s
  | .setFilter p args => Sys2Proof.Machine.execSetFilter p args s
  | .setBurstGap p args => Sys2Proof.Machine.execSetBurstGap p args s
  | .readFilters p args => Sys2Proof.Machine.execReadFilters p args s
  | .unitCodeChange u code => Sys2Proof.Machine.execUnitCodeChange u code s
  | .settleExpiry u => Sys2Proof.Machine.execSettleExpiry u s
  | .setModeTable p args => Sys2Proof.Machine.execSetModeTable p args s
  | .setUnits p args => Sys2Proof.Machine.execSetUnits p args s
  | .setServiceLimit p args => Sys2Proof.Machine.execSetServiceLimit p args s
  | .presetTally p args => Sys2Proof.Machine.execPresetTally p args s
  | .readUnit p args => Sys2Proof.Machine.execReadUnit p args s
  | .readUnits p args => Sys2Proof.Machine.execReadUnits p args s
  | .readModeTable p args => Sys2Proof.Machine.execReadModeTable p args s
  | .programEnd verified => Sys2Proof.Machine.execProgramEnd verified s
  | .intervalTimerExpiry => Sys2Proof.Machine.execIntervalTimerExpiry s
  | .hourlyTimerExpiry => Sys2Proof.Machine.execHourlyTimerExpiry s
  | .setCommitInterval p args => Sys2Proof.Machine.execSetCommitInterval p args s
  | .readStore p args => Sys2Proof.Machine.execReadStore p args s
  | .warningEntry => Sys2Proof.Machine.execWarningEntry s
  | .supplyRestoreRise => Sys2Proof.Machine.execSupplyRestoreRise s
  | .supplyRestoreFall => Sys2Proof.Machine.execSupplyRestoreFall s
  | .returnToNormal => Sys2Proof.Machine.execReturnToNormal s
  | .retainEntry => Sys2Proof.Machine.execRetainEntry s
  | .warmStart => Sys2Proof.Machine.execWarmStart s
  | .backupCellLost => Sys2Proof.Machine.execBackupCellLost s
  | .coldStart => Sys2Proof.Machine.execColdStart s
  | .handoverWindowExpiry => Sys2Proof.Machine.execHandoverWindowExpiry s
  | .bellPulseEnd => Sys2Proof.Machine.execBellPulseEnd s
  | .openHandover p args => Sys2Proof.Machine.execOpenHandover p args s
  | .releaseShift p args => Sys2Proof.Machine.execReleaseShift p args s
  | .acceptShift p args => Sys2Proof.Machine.execAcceptShift p args s
  | .forceHandover p args => Sys2Proof.Machine.execForceHandover p args s
  | .cancelHandover p args => Sys2Proof.Machine.execCancelHandover p args s
  | .setSchedule p args => Sys2Proof.Machine.execSetSchedule p args s
  | .setShiftTimes p args => Sys2Proof.Machine.execSetShiftTimes p args s
  | .readShift p args => Sys2Proof.Machine.execReadShift p args s
  | .readShiftRecord p args => Sys2Proof.Machine.execReadShiftRecord p args s
  | .fetch p lengthByte clocked => Sys2Proof.Machine.execFetch p lengthByte clocked s
  | .brokenFrame p edges bytes => Sys2Proof.Machine.execBrokenFrame p edges bytes s
  | .unknownCommand p code args => Sys2Proof.Machine.execUnknownCommand p code args s
  | .saveSettings p args => Sys2Proof.Machine.execSaveSettings p args s
  | .readPorts p args => Sys2Proof.Machine.execReadPorts p args s
  | .lockGroup p args => Sys2Proof.Machine.execLockGroup p args s
  | .unlockGroup p args => Sys2Proof.Machine.execUnlockGroup p args s
  | .lineReset => Sys2Proof.Machine.execLineReset s
  | .resetNRise => Sys2Proof.Machine.execResetNRise s
  | .clearNotices p args => Sys2Proof.Machine.execClearNotices p args s
  | .holdoffExpiry p => Sys2Proof.Machine.execHoldoffExpiry p s
  | .setNotices p args => Sys2Proof.Machine.execSetNotices p args s
  | .readNotices p args => Sys2Proof.Machine.execReadNotices p args s
  | .startEdge => Sys2Proof.Machine.execStartEdge s
  | .timeLineRise => Sys2Proof.Machine.execTimeLineRise s
  | .selectFall p => Sys2Proof.Machine.execSelectFall p s

end Sys2Proof.Machine
end

