-- ==== Sys2Proof/WellFormed.lean ====
section
/-! DEFINITION. The well-formed commands: the frame of a known command has no more than 60 argument bytes, a broken frame is one
that R183 calls broken or no frame at all, and an unknown command bears no code of the part's. A length that is not the
command's, or a value out of range, is well-formed: the part answers it (R188). -/

namespace Sys2Proof

open Sys2Proof.Machine

/-- The argument bytes of a frame of a known command fit its length byte (R183). -/
def framed (args : List Byte) : Bool := decide (args.length ≤ longestFrame)

/-- A row for broken frames carries the bits of one, or none: a transaction with no edge (R183). Eight edges fill a byte. -/
def brokenForm (edges : Nat) (bytes : List Byte) : Bool :=
  let form := frameForm (clockedBits edges bytes)
  decide (bytes.length = (edges + 7) / 8 ∧ (form = .broken ∨ form = .noFrame))

/-- The well-formed commands. -/
def Instr.wellFormed (i : Instr) : Bool :=
  match i with
  | .stationSecondBoundary => true
  | .secOutPulseEnd => true
  | .elapsedTenth => true
  | .fibrePhaseEdge _ => true
  | .patternTimeout => true
  | .patternComplete => true
  | .markSilenceExpiry => true
  | .holdoverGrowth => true
  | .fibrePresenceExpiry => true
  | .peerPresenceExpiry => true
  | .readClock _ args => framed args
  | .setClock _ args => framed args
  | .setDate _ args => framed args
  | .readSource _ args => framed args
  | .rearmSource _ args => framed args
  | .setMarkWindow _ args => framed args
  | .setLineMarks _ args => framed args
  | .telegramJudged bits => decide (bits.length = 56)
  | .brokenStartBit => true
  | .telegramSent => true
  | .arbitrationLoss => true
  | .idClash => true
  | .sendFault => true
  | .setLineRole _ args => framed args
  | .setLine _ args => framed args
  | .readLine _ args => framed args
  | .tripLeadingEdge _ => true
  | .tripTrailingEdge _ => true
  | .assertQualifies _ => true
  | .releaseQualifies _ => true
  | .allowInput _ args => framed args
  | .setInput _ args => framed args
  | .setChatterInterval _ args => framed args
  | .readInputs _ args => framed args
  | .readInput _ args => framed args
  | .readLog _ args => framed args
  | .seekLog _ args => framed args
  | .readLogState _ args => framed args
  | .firstOutWindowClose => true
  | .burstGapExpiry => true
  | .ackBurst _ args => framed args
  | .listBursts _ args => framed args
  | .readBurst _ args => framed args
  | .setFilter _ args => framed args
  | .setBurstGap _ args => framed args
  | .readFilters _ args => framed args
  | .unitCodeChange _ _ => true
  | .settleExpiry _ => true
  | .setModeTable _ args => framed args
  | .setUnits _ args => framed args
  | .setServiceLimit _ args => framed args
  | .presetTally _ args => framed args
  | .readUnit _ args => framed args
  | .readUnits _ args => framed args
  | .readModeTable _ args => framed args
  | .programEnd _ => true
  | .intervalTimerExpiry => true
  | .hourlyTimerExpiry => true
  | .setCommitInterval _ args => framed args
  | .readStore _ args => framed args
  | .warningEntry => true
  | .supplyRestoreRise => true
  | .supplyRestoreFall => true
  | .returnToNormal => true
  | .retainEntry => true
  | .warmStart => true
  | .backupCellLost => true
  | .coldStart => true
  | .handoverWindowExpiry => true
  | .bellPulseEnd => true
  | .openHandover _ args => framed args
  | .releaseShift _ args => framed args
  | .acceptShift _ args => framed args
  | .forceHandover _ args => framed args
  | .cancelHandover _ args => framed args
  | .setSchedule _ args => framed args
  | .setShiftTimes _ args => framed args
  | .readShift _ args => framed args
  | .readShiftRecord _ args => framed args
  | .fetch _ _ _ => true
  | .brokenFrame _ edges bytes => brokenForm edges bytes
  | .unknownCommand _ code args =>
    framed args && !(decide (code.toNat = fetchCode) || commandCodes.contains code.toNat)
  | .saveSettings _ args => framed args
  | .readPorts _ args => framed args
  | .lockGroup _ args => framed args
  | .unlockGroup _ args => framed args
  | .lineReset => true
  | .resetNRise => true
  | .clearNotices _ args => framed args
  | .holdoffExpiry _ => true
  | .setNotices _ args => framed args
  | .readNotices _ args => framed args
  | .startEdge => true
  | .timeLineRise => true
  | .selectFall _ => true

end Sys2Proof
end

