-- ==== Sys2Proof/Safety.lean ====
section
/-! DEFINITION. The terms of the claims: who sends a command, a port that takes a frame and its answer, and what holds of every safe state, block by
block. -/

namespace Sys2Proof.Machine

/-! ### Senders and frames (R182, R183, section 11.9) -/

/-- The port at which a command comes in, or whose select falls; none for an event of the part or of a field line. -/
def senderOf (i : Instr) : Option Port :=
  match i with
  | .stationSecondBoundary => none
  | .secOutPulseEnd => none
  | .elapsedTenth => none
  | .fibrePhaseEdge _ => none
  | .patternTimeout => none
  | .patternComplete => none
  | .markSilenceExpiry => none
  | .holdoverGrowth => none
  | .fibrePresenceExpiry => none
  | .peerPresenceExpiry => none
  | .readClock p _ => some p
  | .setClock p _ => some p
  | .setDate p _ => some p
  | .readSource p _ => some p
  | .rearmSource p _ => some p
  | .setMarkWindow p _ => some p
  | .setLineMarks p _ => some p
  | .telegramJudged _ => none
  | .brokenStartBit => none
  | .telegramSent => none
  | .arbitrationLoss => none
  | .idClash => none
  | .sendFault => none
  | .setLineRole p _ => some p
  | .setLine p _ => some p
  | .readLine p _ => some p
  | .tripLeadingEdge _ => none
  | .tripTrailingEdge _ => none
  | .assertQualifies _ => none
  | .releaseQualifies _ => none
  | .allowInput p _ => some p
  | .setInput p _ => some p
  | .setChatterInterval p _ => some p
  | .readInputs p _ => some p
  | .readInput p _ => some p
  | .readLog p _ => some p
  | .seekLog p _ => some p
  | .readLogState p _ => some p
  | .firstOutWindowClose => none
  | .burstGapExpiry => none
  | .ackBurst p _ => some p
  | .listBursts p _ => some p
  | .readBurst p _ => some p
  | .setFilter p _ => some p
  | .setBurstGap p _ => some p
  | .readFilters p _ => some p
  | .unitCodeChange _ _ => none
  | .settleExpiry _ => none
  | .setModeTable p _ => some p
  | .setUnits p _ => some p
  | .setServiceLimit p _ => some p
  | .presetTally p _ => some p
  | .readUnit p _ => some p
  | .readUnits p _ => some p
  | .readModeTable p _ => some p
  | .programEnd _ => none
  | .intervalTimerExpiry => none
  | .hourlyTimerExpiry => none
  | .setCommitInterval p _ => some p
  | .readStore p _ => some p
  | .warningEntry => none
  | .supplyRestoreRise => none
  | .supplyRestoreFall => none
  | .returnToNormal => none
  | .retainEntry => none
  | .warmStart => none
  | .backupCellLost => none
  | .coldStart => none
  | .handoverWindowExpiry => none
  | .bellPulseEnd => none
  | .openHandover p _ => some p
  | .releaseShift p _ => some p
  | .acceptShift p _ => some p
  | .forceHandover p _ => some p
  | .cancelHandover p _ => some p
  | .setSchedule p _ => some p
  | .setShiftTimes p _ => some p
  | .readShift p _ => some p
  | .readShiftRecord p _ => some p
  | .fetch p _ _ => some p
  | .brokenFrame p _ _ => some p
  | .unknownCommand p _ _ => some p
  | .saveSettings p _ => some p
  | .readPorts p _ => some p
  | .lockGroup p _ => some p
  | .unlockGroup p _ => some p
  | .lineReset => none
  | .resetNRise => none
  | .clearNotices p _ => some p
  | .holdoffExpiry _ => none
  | .setNotices p _ => some p
  | .readNotices p _ => some p
  | .startEdge => none
  | .timeLineRise => none
  | .selectFall p => some p

/-- A frame of a known command other than FETCH: its port, its argument bytes, and whether they have the length that section
11.9 gives the command. -/
def commandOf (i : Instr) : Option (Port × List Byte × Bool) :=
  match i with
  | .stationSecondBoundary => none
  | .secOutPulseEnd => none
  | .elapsedTenth => none
  | .fibrePhaseEdge _ => none
  | .patternTimeout => none
  | .patternComplete => none
  | .markSilenceExpiry => none
  | .holdoverGrowth => none
  | .fibrePresenceExpiry => none
  | .peerPresenceExpiry => none
  | .readClock p args => some (p, args, fits args 0)
  | .setClock p args => some (p, args, fits args 13)
  | .setDate p args => some (p, args, fits args 5)
  | .readSource p args => some (p, args, fits args 0)
  | .rearmSource p args => some (p, args, fits args 0)
  | .setMarkWindow p args => some (p, args, fits args 4)
  | .setLineMarks p args => some (p, args, fits args 3)
  | .telegramJudged _ => none
  | .brokenStartBit => none
  | .telegramSent => none
  | .arbitrationLoss => none
  | .idClash => none
  | .sendFault => none
  | .setLineRole p args => some (p, args, fits args 1)
  | .setLine p args => some (p, args, fits args 4)
  | .readLine p args => some (p, args, fits args 1)
  | .tripLeadingEdge _ => none
  | .tripTrailingEdge _ => none
  | .assertQualifies _ => none
  | .releaseQualifies _ => none
  | .allowInput p args => some (p, args, fits args 1)
  | .setInput p args => some (p, args, fits args 7)
  | .setChatterInterval p args => some (p, args, fits args 2)
  | .readInputs p args => some (p, args, fits args 0)
  | .readInput p args => some (p, args, fits args 1)
  | .readLog p args => some (p, args, fits args 1)
  | .seekLog p args => some (p, args, fits args 2)
  | .readLogState p args => some (p, args, fits args 0)
  | .firstOutWindowClose => none
  | .burstGapExpiry => none
  | .ackBurst p args => some (p, args, fits args 2)
  | .listBursts p args => some (p, args, fits args 0)
  | .readBurst p args => some (p, args, fits args 2)
  | .setFilter p args => some (p, args, fits args 6)
  | .setBurstGap p args => some (p, args, fits args 2)
  | .readFilters p args => some (p, args, fits args 0)
  | .unitCodeChange _ _ => none
  | .settleExpiry _ => none
  | .setModeTable p args => some (p, args, fits args 16)
  | .setUnits p args => some (p, args, fits args 4)
  | .setServiceLimit p args => some (p, args, fits args 5)
  | .presetTally p args => some (p, args, fits args 6)
  | .readUnit p args => some (p, args, fits args 1)
  | .readUnits p args => some (p, args, fits args 0)
  | .readModeTable p args => some (p, args, fits args 0)
  | .programEnd _ => none
  | .intervalTimerExpiry => none
  | .hourlyTimerExpiry => none
  | .setCommitInterval p args => some (p, args, fits args 2)
  | .readStore p args => some (p, args, fits args 0)
  | .warningEntry => none
  | .supplyRestoreRise => none
  | .supplyRestoreFall => none
  | .returnToNormal => none
  | .retainEntry => none
  | .warmStart => none
  | .backupCellLost => none
  | .coldStart => none
  | .handoverWindowExpiry => none
  | .bellPulseEnd => none
  | .openHandover p args => some (p, args, fits args 0)
  | .releaseShift p args => some (p, args, fits args 0)
  | .acceptShift p args => some (p, args, fits args 1)
  | .forceHandover p args => some (p, args, fits args 1)
  | .cancelHandover p args => some (p, args, fits args 0)
  | .setSchedule p args => some (p, args, scheduleLengthFits args)
  | .setShiftTimes p args => some (p, args, fits args 2)
  | .readShift p args => some (p, args, fits args 0)
  | .readShiftRecord p args => some (p, args, fits args 2)
  | .fetch _ _ _ => none
  | .brokenFrame _ _ _ => none
  | .unknownCommand _ _ _ => none
  | .saveSettings p args => some (p, args, fits args 0)
  | .readPorts p args => some (p, args, fits args 0)
  | .lockGroup p args => some (p, args, fits args 1)
  | .unlockGroup p args => some (p, args, fits args 1)
  | .lineReset => none
  | .resetNRise => none
  | .clearNotices p args => some (p, args, fits args 3)
  | .holdoffExpiry _ => none
  | .setNotices p args => some (p, args, fits args 8)
  | .readNotices p args => some (p, args, fits args 1)
  | .startEdge => none
  | .timeLineRise => none
  | .selectFall _ => none

/-! ### What a station second boundary shows (R18, R22) -/

/-- Station time once the date in the slot, if there is one, has taken its place at a boundary: the fraction stays (R22). -/
def datedTime (s : State) : StationTime :=
  match s.clk.slot with
  | none => s.clk.time
  | some d => { s.clk.time with day := d.day, second := d.second }

/-- The epoch then: a date other than the one shown is a step (R10, R22). -/
def datedEpoch (s : State) : BitVec 8 := if datedTime s = s.clk.time then s.clk.epoch else s.clk.epoch + 1

/-- The clock state then: the first date leaves UNSET for the discipline stage (R18). -/
def datedState (s : State) : ClockState :=
  match s.clk.slot, s.clk.state, s.clk.stage with
  | some _, .unset, .free => .free
  | some _, .unset, .acquiring => .acquiring
  | some _, .unset, .tracking => .tracking
  | _, x, _ => x

/-- The stamp of that moment, with epoch, grade and reported U (section 0.3, R9, R14). -/
def datedStamp (s : State) : FullStamp :=
  { stamp := (datedTime s).stamp, epoch := datedEpoch s, grade := (datedState s).grade,
    u := if datedState s = .free ∨ datedState s = .unset then 65535 else s.clk.u }

/-! ### A frame taken and answered (R182, R184, R187) -/

/-- Port `p` takes the frame whose select now rises: the transaction counts, nothing executes, the part works (R182, R184). -/
def Ready (p : Port) (s : State) : Prop :=
  (s.ports.get p).transaction = some { counts := true } ∧ (s.ports.get p).state ≠ .executing ∧ working s = true

/-- Port `p` of `s` after an answer: ANSWER_READY with the status, the overrun flag read and cleared, and the result; the
transaction is over (R184, R186, R187). -/
def answeredPort (p : Port) (status : Status) (result : Result) (s : State) : PortCtl :=
  { s.ports.get p with
    state := .answerReady
    answer := some { status := status, overrun := (s.ports.get p).overrun, result := result }
    overrun := false
    binding := none
    transaction := none }

/-- State `t` with port `p` holding the answer it makes in state `s`. -/
def answered (p : Port) (status : Status) (result : Result) (s t : State) : State :=
  t.withPort p (answeredPort p status result s)

/-- A frame refused: only its port moves (R188). -/
def refusedWith (p : Port) (status : Status) (s : State) : State := answered p status .empty s s

/-- The state after a command of group `g`: LOCKED, with nothing written, when another port holds the group, else `t` with the
answer (R188, R194). -/
def ofGroup (p : Port) (g : Group) (status : Status) (s t : State) : State :=
  if heldByOther s p g then refusedWith p .locked s else answered p status .empty s t

/-- DONE for a value within `lo..hi`, else DONE_CLAMPED (R189). -/
def rangeStatus (lo hi v : Nat) : Status := if lo ≤ v ∧ v ≤ hi then .done else .doneClamped

/-! ### The Time Base (chapter 1) -/

/-- Station time names a second (R1). -/
def StationTime.named (t : StationTime) : Prop := t.second < Config.day ∧ t.fraction < Config.second

/-- The numbers of the Time Base keep their ranges (R1 to R5, R9, R20). -/
def ClockRanges (c : TimeBase) : Prop :=
  c.time.named ∧ c.elapsedTicks < Config.second ∧ (-Config.accRange < c.acc ∧ c.acc < Config.accRange)
    ∧ (-200000 ≤ c.trim ∧ c.trim ≤ 200000) ∧ (-500 ≤ c.slew ∧ c.slew ≤ 500) ∧ (∀ d ∈ c.slot, d.second < Config.day)
    ∧ c.window.length ≤ 8 ∧ (∀ u ∈ c.window, 1 ≤ u ∧ u ≤ Config.uTop) ∧ c.u ≤ Config.uTop ∧ c.acqCount ≤ 2
    ∧ c.lockCount ≤ 8 ∧ ∀ x ∈ c.candidate, x.agree ≤ 1

/-- No discipline runs: HOLDOVER, FREE, or UNSET with stage FREE (R4, R16, R18). -/
def TimeBase.quiet (c : TimeBase) : Prop :=
  c.state = .holdover ∨ c.state = .free ∨ (c.state = .unset ∧ c.stage = .free)

/-- A clock without discipline has no slew and no history of marks; U grows in HOLDOVER only, below 65,535; the lock count is
0 in UNSET (R4, R5, R16, R18, R19). -/
def ClockModes (c : TimeBase) : Prop :=
  (c.quiet → c.slew = 0 ∧ c.prevMark = none ∧ c.window = [] ∧ c.candidate = none)
    ∧ (c.state = .holdover ↔ c.growth.isSome) ∧ (c.state = .holdover → c.u < Config.uTop)
    ∧ (c.state = .unset → c.lockCount = 0)

/-- The Time Base is safe. -/
def ClockInv (s : State) : Prop := ClockRanges s.clk ∧ ClockModes s.clk

/-! ### The Mark Qualifier (chapter 2) -/

/-- A pattern is in progress in these states (R30). -/
def Recogniser.inPattern (r : Recogniser) : Prop := r = .firstHigh ∨ r = .low ∨ r = .secondHigh

/-- The selected source is the one R38 selects, and FAULTED, the counter and the suspended recogniser go together; no change of
level waits in RETAIN (R30, R33, R35, R38, R43). -/
def SourceInv (s : State) : Prop :=
  s.mq.selected = selectable s
    ∧ (s.mq.faulted = true → s.mq.recogniser = .suspended ∧ s.mq.faultCounter = 32)
    ∧ (s.mq.faulted = false → s.mq.recogniser ≠ .suspended ∧ s.mq.faultCounter ≤ 31)
    ∧ (s.mq.pattern.isSome ↔ s.mq.recogniser.inPattern) ∧ s.mq.streak.length ≤ 2
    ∧ (working s = false → s.mq.edge = none)

/-! ### The Time Line Controller (chapter 3) -/

/-- A telegram goes out exactly in OWN; a start capture stands exactly while a telegram is on the line; a low line, whoever pulls it,
has no line-free count, and a high one has the moment of its rise; nothing of it moves in RETAIN (R45, R47, R51, R61). -/
def LineInv (s : State) : Prop :=
  (s.tl.sendState = .sending ↔ s.tl.receiver = .own) ∧ (s.tl.outgoing.isSome ↔ s.tl.receiver = .own)
    ∧ (s.tl.capture.isSome ↔ (s.tl.receiver = .start ∨ s.tl.receiver = .data ∨ s.tl.receiver = .own))
    ∧ s.tl.freeCount ≤ Config.lineFree ∧ s.tl.readBits.length ≤ 56
    ∧ (lineLevel s = .low → s.tl.freeCount = 0 ∧ s.tl.highSince = none)
    ∧ (working s = true → lineLevel s = .high → s.tl.highSince.isSome)
    ∧ (working s = false → s.tl.receiver = .awaitHigh ∧ s.tl.freeCount = 0 ∧ s.tl.highSince = none)

/-! ### The Trip Input Unit (chapter 4) -/

/-- Input `i` keeps its state, its setting, its score and its level in step (R65, R66, R71, R72, R74). -/
def InputSafe (s : State) (i : Fin 16) : Prop :=
  let x := s.inputs.get i
  (x.capture.isSome ↔ (x.state = .qualifying ∨ x.state = .releasing))
    ∧ (x.state = .disabled ↔ (s.settings.inputs.inputs.get i).enabled = false)
    ∧ x.score ≤ chatterTop ∧ (x.state = .blocked → x.score = chatterTop)
    ∧ (x.state ≠ .blocked → x.state ≠ .disabled → x.score < chatterTop)
    ∧ (working s = true → x.state = .idle ∨ x.state = .releasing → inputActive s i = false)
    ∧ (working s = true → x.state = .active ∨ x.state = .qualifying → inputActive s i = true)

def InputsInv (s : State) : Prop := ∀ i, InputSafe s i

/-! ### The Trip Log (chapter 5) -/

/-- The ring holds at most 1,024 entries with consecutive numbers up to the newest, and every cursor stands at an entry of the
ring or at the newest end (R84 to R86). -/
def LogInv (s : State) : Prop :=
  s.log.ring.length ≤ Config.ringSize
    ∧ s.log.ring.map (fun e => e.seq)
        = (List.range s.log.ring.length).map
            (fun k => s.log.nextSeq - BitVec.ofNat 16 s.log.ring.length + BitVec.ofNat 16 k)
    ∧ ∀ p, (s.log.nextSeq - s.log.cursors.get p).toNat ≤ s.log.ring.length

/-! ### The Burst Table (chapter 5) -/

/-- The table holds at most 32 records of different numbers; the open burst reference names the one record that is not CLOSED,
and there is none in RETAIN; the hold count, here and in the Shift Controller, is the number of UNACKNOWLEDGED records with
HOLD_HANDOVER (R91, R92, R101, R110). -/
def BurstInv (s : State) : Prop :=
  s.bursts.records.length ≤ Config.burstPlaces ∧ (s.bursts.records.map fun r => r.number).Nodup
    ∧ (∀ r ∈ s.bursts.records, r.state ≠ .closed → s.bursts.openRef = some r.number)
    ∧ (∀ n ∈ s.bursts.openRef, ∃ r ∈ s.bursts.records, r.number = n ∧ r.state ≠ .closed)
    ∧ s.bursts.holdCount = s.bursts.records.countP BurstRecord.holds ∧ s.shift.holdCount = s.bursts.holdCount
    ∧ (working s = false → s.bursts.openRef = none)

/-! ### The units (chapter 6) -/

/-- A fitted unit has a raw mode and a unit mode, and a candidate exactly when they differ, which is then the raw mode; outside
RETAIN the raw mode is the one the table gives its code. An unfitted unit has none of them (R112, R114, R118). -/
def UnitSafe (s : State) (u : Fin 8) : Prop :=
  let x := s.units.get u
  if isFitted s u then
    x.raw.isSome ∧ x.mode.isSome ∧ x.candidate = (if x.raw = x.mode then none else x.raw) ∧ x.modeEntry.isSome
      ∧ (working s = true → x.raw = some (decodedMode s u))
  else x.raw = none ∧ x.mode = none ∧ x.candidate = none ∧ x.modeEntry = none

def UnitsInv (s : State) : Prop := ∀ u, UnitSafe s u

/-! ### The Tally Store and the ports (chapters 7 and 9) -/

/-- The queue holds different records, at most 12, and outside RETAIN none waits without a program in progress; in RETAIN there
is neither (R137, R138, R147). -/
def QueueSafe (s : State) : Prop :=
  (s.store.queue.map fun q => q.record).Nodup ∧ s.store.queue.length ≤ 12
    ∧ (working s = true → s.store.program = none → s.store.queue = [])
    ∧ (working s = false → s.store.program = none ∧ s.store.queue = [])

/-- A port executes exactly while it is bound, holds an answer exactly in ANSWER_READY, and its binding names a settings
request that waits or a settings program that runs; in RETAIN it is idle (R184, R187, R195, R198). -/
def PortSafe (s : State) (p : Port) : Prop :=
  let c := s.ports.get p
  (c.state = .executing ↔ c.binding.isSome) ∧ (c.state = .answerReady ↔ c.answer.isSome)
    ∧ (c.binding = some .queued → s.store.isQueued .settings = true)
    ∧ (c.binding = some .program → ∃ x ∈ s.store.program, x.content.record = .settings)
    ∧ (working s = false → c.state = .idle)

def StoreInv (s : State) : Prop := QueueSafe s ∧ ∀ p, PortSafe s p

/-! ### The Shift Controller (chapter 8) -/

/-- A handover is open exactly outside ON_SHIFT; the list holds at most 16 records; each boundary has its marker; outside
RETAIN the grade now is no poorer than the shift's worst grade (R156, R161, R163, R173). -/
def ShiftInv (s : State) : Prop :=
  (s.shift.handover.isSome ↔ s.shift.state ≠ .onShift) ∧ s.shift.records.length ≤ 16
    ∧ s.shift.markers.length = s.settings.shift.schedule.length
    ∧ (working s = true → (gradeNow s).rank ≤ s.shift.current.worst.rank)

/-! ### The Notice Controller (chapter 10) -/

/-- The attention lines can be asserted: outside RETAIN, and in a part that has power and waits for its cold start (R202, R210).
DESIGN CHOICE (log entry 26): such a part has power while the supply stands at the low threshold or above. -/
def signals (s : State) : Bool := working s || (s.supply.stopped && decide (s.pins.supply ≠ .belowLow))

/-- A port's attention line is asserted exactly when the lines can be, its holdoff does not run and its pending set is not empty;
its pending kinds are enabled, the start kinds always; nothing is pending in RETAIN (R200 to R202, R205, R207, R210). -/
def NoticeSafe (s : State) (p : Port) : Prop :=
  let n := s.notices.get p
  let enable := (s.settings.notice.get p).enable
  (n.attention = true ↔ signals s = true ∧ n.holdoff = none ∧ n.pending ≠ 0)
    ∧ n.pending &&& ~~~enable = 0 ∧ startKinds &&& ~~~enable = 0
    ∧ (signals s = false → n.pending = 0 ∧ n.holdoff = none)
    ∧ (s.supply.stopped = true → n.holdoff = none)

def NoticesInv (s : State) : Prop := ∀ p, NoticeSafe s p

end Sys2Proof.Machine
end

