-- ==== Sys2Proof/Certificates/Slice0/Obligations.lean ====
section
/-! DEFINITION. The statements for the provers. -/

open Sys2Proof Sys2Proof.Machine

/-! ### The step and its invariants -/

/-- A step with command `c` at the front of the queue is `exec c` on the state with the queue's rest (log entry 1). -/
def Obligations.StepRunsTheFrontCommand : Prop :=
  ∀ (c : Instr) (rest : List Instr) (s : State), s.pending = c :: rest → step s = exec c { s with pending := rest }

/-- On an empty queue the step is one oscillator period (the model's choice, log entry 1): the accumulator takes D_eff = D + 100 S
and delivers 0, 1 or 2 ticks (R3), by which station time and the elapsed base advance (R1, R2). The other registers of the Time
Base and the other blocks stand, but for the recogniser, the receiver, the line-free count and the bits read.

What has then fallen due joins the queue: each event of the part exactly when its own condition holds of the state reached (R1,
R2, R16, R19, R23, R30, R31, R38, R47, R48, R51 to R53, R67, R68, R96, R97, R115, R138, R141, R142, R144, R165, R174, R204).
Nothing else joins: no frame, no move of a pin, no line reset and no SEND_FAULT.

The conditions rest on choices of the model: boundaries and tenths wait in a count (log entry 2); a change of light stands after
50 µs, and a completed pattern and the 2 ms limit wait for one that may come before them (log entry 13); TELEGRAM_JUDGED names the
bits read, and it, TELEGRAM_SENT, ARBITRATION_LOSS and ID_CLASH join by themselves when what was read makes them due (log entry
21). So do the order of the events (log entry 11) and the outcome of a verify that runs its full 10 ms (log entry 10). -/
def Obligations.EmptyQueueCountsOnePeriod : Prop :=
  ∀ s : State, s.pending = [] → s.supply.stopped = false → s.clk.elapsedTicks < 10000000 →
    ∃ t, step s = .next t
      ∧ (let a := s.clk.acc + (s.clk.trim + 100 * s.clk.slew)
         let k : Nat := if 1000000000 ≤ a then 2 else if a ≤ -1000000000 then 0 else 1
         t.clk.acc = a - (k - 1) * 1000000000 ∧ now t = (now s + k) % 42949672960000000
           ∧ t.clk.time = s.clk.time.advance k
           ∧ t.clk.boundaries = s.clk.boundaries + (if 10000000 ≤ s.clk.time.fraction + k then 1 else 0)
           ∧ t.clk.tenths = s.clk.tenths + ((s.clk.elapsedTicks + k) / 1000000 - s.clk.elapsedTicks / 1000000))
      ∧ t.clk = { s.clk with
          acc := t.clk.acc, elapsedSeconds := t.clk.elapsedSeconds, elapsedTicks := t.clk.elapsedTicks,
          time := t.clk.time, boundaries := t.clk.boundaries, tenths := t.clk.tenths }
      ∧ t.mq = { s.mq with recogniser := t.mq.recogniser }
      ∧ t.tl = { s.tl with
          receiver := t.tl.receiver, freeCount := t.tl.freeCount, highSince := t.tl.highSince, readBits := t.tl.readBits }
      ∧ (t.inputs = s.inputs ∧ t.log = s.log ∧ t.bursts = s.bursts ∧ t.units = s.units ∧ t.store = s.store
          ∧ t.supply = s.supply ∧ t.shift = s.shift ∧ t.ports = s.ports ∧ t.settings = s.settings ∧ t.locks = s.locks
          ∧ t.notices = s.notices ∧ t.pins = s.pins)
      ∧ t.pending = dueEvents { t with pending := [], draws := s.draws }
      ∧ (∀ e ∈ t.pending,
          e ∈ [.stationSecondBoundary, .secOutPulseEnd, .elapsedTenth, .fibrePhaseEdge .stands, .patternComplete,
              .patternTimeout, .markSilenceExpiry, .holdoverGrowth, .fibrePresenceExpiry, .peerPresenceExpiry,
              .telegramJudged t.tl.readBits, .brokenStartBit, .telegramSent, .arbitrationLoss, .idClash,
              .firstOutWindowClose, .burstGapExpiry, .intervalTimerExpiry, .hourlyTimerExpiry, .returnToNormal, .warmStart,
              .handoverWindowExpiry, .bellPulseEnd]
            ∨ (∃ i, e = .assertQualifies i ∨ e = .releaseQualifies i) ∨ (∃ u, e = .settleExpiry u)
            ∨ (∃ v, e = .programEnd v) ∨ ∃ p, e = .holdoffExpiry p)
      ∧ (let due := fun (e : Instr) (p : Prop) => e ∈ t.pending ↔ p
         let works := working t = true
         let goes := fun (p : BitVec 56 → StartCapture → Prop) =>
           works ∧ t.tl.sendState = .sending ∧ ∃ bits c, t.tl.outgoing = some bits ∧ t.tl.capture = some c ∧ p bits c
         let n := t.tl.readBits.length
         let differs := fun (bits : BitVec 56) => t.tl.readBits.getLast? = some false ∧ bits.getMsbD (n - 1) = true
         due .stationSecondBoundary (t.clk.boundaries ≠ 0)
           ∧ due .secOutPulseEnd (∃ x, t.clk.secOut = some x ∧ x.length ≤ since t x.start)
           ∧ due .elapsedTenth (t.clk.tenths ≠ 0)
           ∧ due (.fibrePhaseEdge .stands) (works ∧ ∃ e, t.mq.edge = some e ∧ 500 ≤ since t e.reading)
           ∧ due .patternComplete (works ∧ t.mq.recogniser = .secondHigh ∧ 2000 ≤ since t t.mq.phaseStart
               ∧ (∃ x, t.mq.pattern = some x ∧ elapsedBetween x.start t.mq.phaseStart + 2000 ≤ 20000)
               ∧ ∀ e, t.mq.edge = some e → 2000 ≤ elapsedBetween t.mq.phaseStart e.reading)
           ∧ due .patternTimeout (works ∧ .patternComplete ∉ t.pending ∧ ∃ x, t.mq.pattern = some x
               ∧ 20000 ≤ since t x.start ∧ ∀ e, t.mq.edge = some e → 20000 ≤ elapsedBetween x.start e.reading)
           ∧ due .markSilenceExpiry (∃ r, t.clk.silence = some r ∧ 30000000 ≤ since t r)
           ∧ due .holdoverGrowth (t.clk.state = .holdover ∧ ∃ x, t.clk.growth = some x ∧ x.length ≤ since t x.start)
           ∧ due .fibrePresenceExpiry (∃ r, t.mq.fibrePresence = some r ∧ 30000000 ≤ since t r)
           ∧ due .peerPresenceExpiry (∃ r, t.mq.peerPresence = some r ∧ 30000000 ≤ since t r)
           ∧ (∀ bits, due (.telegramJudged bits) (works ∧ t.tl.receiver = .data ∧ bits = t.tl.readBits
               ∧ ∃ c, t.tl.capture = some c ∧ 57000 ≤ since t c.reading))
           ∧ due .brokenStartBit (works ∧ t.tl.receiver = .start ∧ lineLevel t = .high
               ∧ ∃ c, t.tl.capture = some c ∧ 500 ≤ since t c.reading)
           ∧ due .telegramSent (goes fun bits c => 57000 ≤ since t c.reading ∧ ¬differs bits)
           ∧ due .arbitrationLoss (goes fun bits _ => differs bits ∧ n ≤ 8)
           ∧ due .idClash (goes fun bits _ => differs bits ∧ 8 < n)
           ∧ (∀ i, due (.assertQualifies i) (works ∧ (t.inputs.get i).state = .qualifying
               ∧ ∃ c, (t.inputs.get i).capture = some c ∧ c.tq * 1000 ≤ since t c.reading))
           ∧ (∀ i, due (.releaseQualifies i) (works ∧ (t.inputs.get i).state = .releasing
               ∧ ∃ c, (t.inputs.get i).capture = some c ∧ c.tq * 1000 ≤ since t c.reading))
           ∧ due .firstOutWindowClose (works ∧ ∃ r, openRecord t = some r ∧ r.state = .forming
               ∧ 300000 ≤ since t r.opening)
           ∧ due .burstGapExpiry (works ∧ ∃ r, openRecord t = some r ∧ r.state = .opened
               ∧ t.settings.inputs.burstGap * 10000 ≤ since t r.lastJoin)
           ∧ (∀ u, due (.settleExpiry u) (works ∧ isFitted t u = true ∧ (t.units.get u).candidate ≠ none
               ∧ t.settings.tally.settle * 1000000 ≤ since t (t.units.get u).settleStart))
           ∧ (∀ v, due (.programEnd v) (works ∧ v = Config.verifyOutcome s.draws
               ∧ ∃ x, t.store.program = some x ∧ 100000 ≤ since t x.start))
           ∧ due .intervalTimerExpiry (works ∧ ∃ x, t.store.interval = some x ∧ x.length ≤ since t x.start)
           ∧ due .hourlyTimerExpiry (works ∧ ∃ r, t.store.hourly = some r ∧ 36000000000 ≤ since t r)
           ∧ due .returnToNormal (t.supply.state = .warning ∧ ∃ r, t.supply.restore = some r ∧ 1000000 ≤ since t r)
           ∧ due .warmStart (t.supply.state = .retain ∧ ∃ r, t.supply.restore = some r ∧ 1000000 ≤ since t r)
           ∧ due .handoverWindowExpiry (works ∧ t.shift.state = .handoverOpen
               ∧ ∃ h, t.shift.handover = some h ∧ t.settings.shift.window * 600000000 ≤ since t h.reading)
           ∧ due .bellPulseEnd (works ∧ ∃ x, t.shift.bell = some x ∧ x.length ≤ since t x.start)
           ∧ ∀ p, due (.holdoffExpiry p) (works ∧ ∃ x, (t.notices.get p).holdoff = some x ∧ x.length ≤ since t x.start))

/-- The state right after a cold start with a blank store (log entry 3) is safe, block by block. -/
def Obligations.TheResetStateIsSafe : Prop :=
  ClockInv .reset ∧ SourceInv .reset ∧ LineInv .reset ∧ InputsInv .reset ∧ LogInv .reset ∧ BurstInv .reset ∧ UnitsInv .reset
    ∧ StoreInv .reset ∧ ShiftInv .reset ∧ NoticesInv .reset

/-- Every step keeps the ranges and the modes of the Time Base. -/
def Obligations.EveryStepKeepsTheClockSafe : Prop := ∀ s t : State, ClockInv s → step s = .next t → ClockInv t

/-- Every step keeps the selected source the one R38 selects, and FAULTED, the counter and the recogniser in step. -/
def Obligations.EveryStepKeepsTheSourceSafe : Prop := ∀ s t : State, SourceInv s → step s = .next t → SourceInv t

/-- Every step keeps the send state, the receiver, the capture and the line-free count in step. -/
def Obligations.EveryStepKeepsTheLineSafe : Prop := ∀ s t : State, LineInv s → step s = .next t → LineInv t

/-- Every step keeps each input's state, setting, score and level in step. -/
def Obligations.EveryStepKeepsTheInputsSafe : Prop := ∀ s t : State, InputsInv s → step s = .next t → InputsInv t

/-- Every step keeps the ring's bound, its consecutive numbers and the cursors within it. -/
def Obligations.EveryStepKeepsTheLogSafe : Prop := ∀ s t : State, LogInv s → step s = .next t → LogInv t

/-- Every step keeps at most one burst open, and the hold count the number of the records it counts. -/
def Obligations.EveryStepKeepsTheBurstsSafe : Prop := ∀ s t : State, BurstInv s → step s = .next t → BurstInv t

/-- Every step keeps the raw modes the table's, and a candidate exactly where raw mode and unit mode differ. -/
def Obligations.EveryStepKeepsTheUnitsSafe : Prop := ∀ s t : State, UnitsInv s → step s = .next t → UnitsInv t

/-- Every step keeps the commit queue without repeats, and each port's execution bound to a settings commit. -/
def Obligations.EveryStepKeepsTheStoreSafe : Prop := ∀ s t : State, StoreInv s → step s = .next t → StoreInv t

/-- Every step keeps a handover open exactly outside ON_SHIFT, and the worst grade no better than the grade now. -/
def Obligations.EveryStepKeepsTheShiftSafe : Prop := ∀ s t : State, ShiftInv s → step s = .next t → ShiftInv t

/-- Every step keeps each attention line as R202 gives it while the part works, and no pending kind disabled.

That the lines of a stopped part are asserted while the supply stands at the low threshold or above, and released below it, is the
model's choice (log entry 26), since the spec does not say at which supply such a part has power. -/
def Obligations.EveryStepKeepsTheNoticesSafe : Prop := ∀ s t : State, NoticesInv s → step s = .next t → NoticesInv t

/-! ### Rules of the whole part -/

/-- No command moves the elapsed base or the trim accumulator, but for the loss of the working memory and the cold start (R2, R3).
RETAIN_ENTRY is among the exceptions only for a cell already lost (R148).

Within one epoch a command leaves station time as it is: other than by counted ticks it changes only at a step, and each
step raises the epoch (R10). The loss of the working memory and the cold start apart. -/
def Obligations.CommandsMoveTimeOnlyByASteppedEpoch : Prop :=
  (∀ (c : Instr) (s t : State), c ≠ .coldStart → c ≠ .backupCellLost → (c ≠ .retainEntry ∨ s.supply.cellLost = false) →
     exec c s = .next t → now t = now s ∧ t.clk.acc = s.clk.acc)
    ∧ (∀ (c : Instr) (s t : State), c ≠ .coldStart → c ≠ .backupCellLost → (c ≠ .retainEntry ∨ s.supply.cellLost = false) →
         exec c s = .next t → t.clk.epoch = s.clk.epoch → t.clk.time = s.clk.time)

/-- A group held by another port is written by no frame of port `p`; at the NOTICE group the sender's own settings apart, which
are not judged against the lock (R188, R194, R205). -/
def Obligations.AHeldGroupIsNotWritten : Prop :=
  ∀ (c : Instr) (p : Port) (s t : State), senderOf c = some p → exec c s = .next t →
    (heldByOther s p .time = true → t.settings.time = s.settings.time)
      ∧ (heldByOther s p .line = true → t.settings.line = s.settings.line)
      ∧ (heldByOther s p .inputs = true → t.settings.inputs = s.settings.inputs)
      ∧ (heldByOther s p .tally = true → t.settings.tally = s.settings.tally)
      ∧ (heldByOther s p .shift = true → t.settings.shift = s.settings.shift)
      ∧ (heldByOther s p .notice = true → ∀ q, q ≠ p → t.settings.notice.get q = s.settings.notice.get q)

/-- A frame, a FETCH or a fall of select at one port leaves the state, the answer, the overrun flag, the transaction and the answer
bits of every other port (R184: the ports take their frames without regard to one another), and the waiting commands.

In RETAIN, and without power, a frame, a FETCH or a fall of select changes at most its own port's transaction, the answer bits
standing as they were or emptied (R182, R198). -/
def Obligations.AFrameTouchesItsOwnPort : Prop :=
  (∀ (c : Instr) (p q : Port) (s t : State), senderOf c = some p → q ≠ p → exec c s = .next t →
     t.ports.get q = { s.ports.get q with binding := (t.ports.get q).binding } ∧ t.pending = s.pending)
    ∧ (∀ (c : Instr) (p : Port) (s t : State), senderOf c = some p → working s = false → exec c s = .next t →
         ∃ x bits, t = s.withPort p { s.ports.get p with transaction := x, answerBits := bits }
           ∧ (bits = (s.ports.get p).answerBits ∨ bits = []))

/-- The judging of a frame before its block sees it (R182 to R184, R188). A known command's, a broken one, one of an unknown code and
a FETCH with a length byte other than 0 alike: with no transaction it is ignored; in a transaction whose select fell while the
ports did not run, or that a FETCH took, and in RETAIN, only the transaction ends; in EXECUTING it is dropped and the overrun flag
set.

A known command with more than 60 argument bytes is broken; with a length other than the command's it is refused. A broken frame
is answered FRAME_ERROR: fewer than 16 bits, or, but for a FETCH, bits that are not whole bytes, a length byte above 60, or
argument bytes other than the length byte counts. A frame of no known code is UNKNOWN, and a FETCH with a length byte other than 0
is judged like any other frame; nothing else changes (R183, R185, R188). A transaction with no clock edge carries no frame.

That a frame with no transaction begun is ignored, and that one after a FETCH only ends the transaction, is the model's choice
(log entry 22). -/
def Obligations.FramesAreJudgedInOrder : Prop :=
  let bitsOf := fun (edges : Nat) (bytes : List Byte) => (bytes.flatMap fun b => (List.range 8).map b.getMsbD).take edges
  let broken := fun (bits : List Bool) =>
    let first := numberOfBits (bits.take 8)
    let len := numberOfBits ((bits.drop 8).take 8)
    bits ≠ [] ∧ (bits.length < 16 ∨ (¬(first = 1 ∧ len = 0)
      ∧ (bits.length % 8 ≠ 0 ∨ 60 < len ∨ bits.length ≠ 16 + 8 * len)))
  (∀ (c : Instr) (p : Port) (s : State),
     (∃ args good, commandOf c = some (p, args, good))
       ∨ (∃ edges bytes, c = .brokenFrame p edges bytes ∧ broken (bitsOf edges bytes))
       ∨ (∃ code args, c = .unknownCommand p code args ∧ isCommand code = false)
       ∨ (∃ length clocked, c = .fetch p length clocked ∧ length ≠ 0) →
     ((s.ports.get p).transaction = none → exec c s = .next s)
       ∧ (∀ x, (s.ports.get p).transaction = some x → x.counts = false ∨ x.fetched = true ∨ working s = false →
           exec c s = .next (s.withPort p { s.ports.get p with transaction := none }))
       ∧ ((s.ports.get p).transaction = some { counts := true } → working s = true → (s.ports.get p).state = .executing →
           exec c s = .next (s.withPort p { s.ports.get p with transaction := none, overrun := true })))
    ∧ (∀ (c : Instr) (p : Port) (args : List Byte) (good : Bool) (s : State), commandOf c = some (p, args, good) →
         Ready p s →
         (60 < args.length → exec c s = .next (refusedWith p .frameError s))
           ∧ (args.length ≤ 60 → good = false → exec c s = .next (refusedWith p .badLength s)))
    ∧ (∀ (p : Port) (edges : Nat) (bytes : List Byte) (code : Byte) (args : List Byte) (length : Byte) (clocked : List Bool)
         (s : State), Ready p s →
         (broken (bitsOf edges bytes) → exec (.brokenFrame p edges bytes) s = .next (refusedWith p .frameError s))
           ∧ exec (.brokenFrame p 0 []) s = .next (s.withPort p { s.ports.get p with transaction := none })
           ∧ (isCommand code = false → args.length ≤ 60 →
               exec (.unknownCommand p code args) s = .next (refusedWith p .unknown s))
           ∧ (isCommand code = false → 60 < args.length →
               exec (.unknownCommand p code args) s = .next (refusedWith p .frameError s))
           ∧ (length ≠ 0 → 60 < length.toNat ∨ clocked.length ≠ 8 * length.toNat →
               exec (.fetch p length clocked) s = .next (refusedWith p .frameError s))
           ∧ (length.toNat ≠ 0 → length.toNat ≤ 60 → clocked.length = 8 * length.toNat →
               exec (.fetch p length clocked) s = .next (refusedWith p .badLength s)))

/-- A transaction begins at the fall of select, and counts when the port then runs: outside RETAIN with RESET_N high; data out is
low (R182).

A FETCH is taken when its length byte is complete, select still low. It samples what its port holds and shifts it out from the
next bit on, each byte most significant bit first, followed by zeros: BUSY in EXECUTING, NOT_NOW in IDLE, each with the flag clear
and length 0; in ANSWER_READY the answer: its status code, the overrun flag in bit 7, the length of the result in two bytes, then
the result (R182, R185, R187, R212). Data out was low through the first 16 bits, nothing else of the port moves, and the answer is
still held. An execution that ends after it leaves the sampled bits as they are. A FETCH whose transaction does not count drives
nothing.

That a transaction is a SELECT_FALL and the frame that follows it, that select falls next once a FETCH has been taken in it, and
that a second FETCH in it is none, is the model's choice (log entry 22). -/
def Obligations.TransactionsAndFetch : Prop :=
  ∀ (p : Port) (clocked : List Bool) (s : State),
    let c := s.ports.get p
    (c.transaction = none ∨ (∃ x, c.transaction = some x ∧ x.fetched = true) →
      exec (.selectFall p) s = .next (s.withPort p { c with
        transaction := some { counts := working s && decide (s.pins.resetN = .high) }, answerBits := [] }))
      ∧ (c.transaction = some { counts := true } → working s = true →
          let shows := fun (bytes : List Byte) =>
            ∃ bits, let d : PortCtl := { c with transaction := some { counts := true, fetched := true }, answerBits := bits }
              exec (.fetch p 0 clocked) s = .next (s.withPort p d)
                ∧ (∀ n < 16, dataOutHigh d n = false)
                ∧ (∀ k, dataOutHigh d (16 + k) = ((bytes[k / 8]?).getD 0).getMsbD (k % 8))
                ∧ ∀ (v : Bool) (t : State), exec (.programEnd v) (s.withPort p d) = .next t →
                    (t.ports.get p).answerBits = bits
          (c.state = .executing → shows [2, 0, 0, 0]) ∧ (c.state = .idle → shows [3, 0, 0, 0])
            ∧ ∀ a, c.state = .answerReady → c.answer = some a →
                let code : Byte := match a.status with
                  | .done => 0 | .doneClamped => 1 | .busy => 2 | .notNow => 3 | .locked => 4 | .conflict => 5
                  | .wrongCrew => 6 | .notFound => 7 | .badArgument => 8 | .badLength => 9 | .unknown => 10 | .frameError => 11
                let n := a.result.bytes.length
                shows ([code, if a.overrun then 128 else 0, BitVec.ofNat 8 (n / 256), BitVec.ofNat 8 n] ++ a.result.bytes))
      ∧ (c.transaction = none → exec (.fetch p 0 clocked) s = .next s)
      ∧ (∀ x, c.transaction = some x → x.fetched = true → exec (.fetch p 0 clocked) s = .next s)
      ∧ (∀ x, c.transaction = some x → x.fetched = false → x.counts = false ∨ working s = false →
          exec (.fetch p 0 clocked) s = .next (s.withPort p { c with transaction := some { x with fetched := true } }))

/-! ### Reads -/

/-- The reads that take no argument are answered DONE with a sample of their block as it stands, and change nothing else (R24,
R40, R78, R89, R105, R109, R128, R129, R154, R175, R196).

That READ STORE shows a free validity for the copy being written, that it and the other reads truncate the times they give, and
that it shows neither copy nor counter for a program of a single-copy record is the model's choice (log entries 12, 31 and 34). -/
def Obligations.ReadsWithoutArgumentAnswerTheirSample : Prop :=
  ∀ (p : Port) (s : State), Ready p s →
    let gives := fun (c : Instr) (r : Result) => exec c s = .next (answered p .done r s s)
    let ago := fun (unit : Nat) (r : Reading) => since s r / unit
    let millis := fun (r : Reading) => min 65535 (ago 10000 r)
    let left := fun (start : Reading) (length : Nat) => (length - since s start) / 10000000
    let shown := fun (r : RecordId) (c : CopyNo) (valid : Bool) =>
      match s.store.program with
      | some x => if x.content.record = r ∧ x.copy = c then Config.targetShown x.start else valid
      | none => valid
    let copies := fun (r : RecordId) (v1 : Bool) (n1 : BitVec 16) (v2 : Bool) (n2 : BitVec 16) =>
      ({ validOne := shown r .one v1, counterOne := n1, validTwo := shown r .two v2, counterTwo := n2 } : CopiesSample)
    let port := fun (c : PortCtl) =>
      ({ state := c.state, overrun := c.overrun, bound := c.binding.isSome } : PortSample)
    gives (.readClock p []) (.clock
        { stamp := s.clk.time.stamp, epoch := s.clk.epoch, state := s.clk.state, grade := s.clk.state.grade,
          u := if s.clk.state = .free ∨ s.clk.state = .unset then 65535 else s.clk.u, trim := s.clk.trim, slew := s.clk.slew,
          source := s.mq.selected, stage := if s.clk.state = .unset then some s.clk.stage else none,
          acqCount := s.clk.acqCount, lockCount := s.clk.lockCount, candidate := s.clk.candidate, slot := s.clk.slot,
          elapsedSeconds := s.clk.elapsedSeconds })
      ∧ gives (.readSource p []) (.source
          { selected := s.mq.selected, firstAfterChange := s.mq.firstAfterChange, faultCounter := s.mq.faultCounter,
            faulted := s.mq.faulted, recogniser := s.mq.recogniser, fibreRef := s.mq.fibreRef.map millis,
            lineRef := s.mq.lineRef.map millis, streak := s.mq.streak.length, fibrePresence := s.mq.fibrePresence.isSome,
            peerPresence := s.mq.peerPresence.isSome, wellGraded := s.mq.wellGraded, lineMarks := s.settings.line.lineMarks,
            delay := s.settings.line.delay, window := s.settings.time.markWindow, totals := s.mq.totals })
      ∧ gives (.readInputs p []) (.levels { tripIn := s.pins.tripIn, unitState := s.pins.unitState, stamp := stampNow s })
      ∧ gives (.readLogState p []) (.logState
          { held := s.log.ring.length, oldest := s.log.ring.head?.map fun e => e.seq, nextSeq := s.log.nextSeq,
            cursors := s.log.cursors, missed := s.log.missed })
      ∧ gives (.listBursts p []) (.bursts
          { holdCount := s.bursts.holdCount, freePlaces := 32 - s.bursts.records.length, openRef := s.bursts.openRef,
            lines := s.bursts.records.reverse.map fun r => { number := r.number, state := r.state, ack := r.ack } })
      ∧ gives (.readFilters p []) (.filters
          { filters := s.settings.inputs.filters, burstGap := s.settings.inputs.burstGap })
      ∧ gives (.readUnits p []) (.units (.ofFn fun u =>
          { fitted := isFitted s u, code := unitCode s u, mode := (s.units.get u).mode,
            candidate := (s.units.get u).candidate, serviceDue := (s.units.get u).serviceDue }))
      ∧ gives (.readModeTable p []) (.table
          { modeTable := s.settings.tally.modeTable, fitted := s.settings.tally.fitted, settle := s.settings.tally.settle,
            limits := s.settings.tally.limits })
      ∧ gives (.readStore p []) (.store
          { supply := s.supply.state, warnings := s.supply.warnings,
            program := s.store.program.map fun x =>
              let two := match x.content.record with | .settings => false | .shiftRecord => false | _ => true
              { record := x.content.record, copy := if two then some x.copy else none,
                counter := if two then some x.counter else none, retry := x.retry, age := ago 10000 x.start },
            queue := s.store.queue,
            time := copies .time s.store.timeRecord.one.valid s.store.timeRecord.one.counter
              s.store.timeRecord.two.valid s.store.timeRecord.two.counter,
            units := .ofFn fun u =>
              let r := s.store.unitRecords.get u
              copies (.unit u) r.one.valid r.one.counter r.two.valid r.two.counter,
            currentShift := copies .currentShift s.store.shiftContent.one.valid s.store.shiftContent.one.counter
              s.store.shiftContent.two.valid s.store.shiftContent.two.counter,
            settingsValid := shown .settings .one s.store.settingsRecord.valid,
            slotsValid := .ofFn fun k => match s.store.program with
              | some { content := .shiftRecord (some r), start := start, .. } =>
                if r.number.toNat % 16 = k.val then Config.targetShown start else (s.store.slots.get k).valid
              | _ => (s.store.slots.get k).valid,
            counts := s.store.counts, load := s.store.load, commitInterval := s.settings.tally.commitInterval,
            intervalLeft := match s.store.interval with | some x => left x.start x.length | none => 0,
            hourlyLeft := match s.store.hourly with | some r => left r 36000000000 | none => 0 })
      ∧ gives (.readShift p []) (.shift
          { state := s.shift.state, current := s.shift.current, age := ago 10000000 s.shift.current.startReading,
            handover := s.shift.handover.map fun h =>
              { handover := h, age := ago 10000000 h.reading,
                left := if s.shift.state = .handoverOverdue then 0 else left h.reading (s.settings.shift.window * 600000000) },
            holdCount := s.shift.holdCount,
            schedule := s.settings.shift.schedule.zipIdx.map fun x =>
              { index := x.2, second := x.1.second, crew := x.1.crew,
                marker := match s.shift.markers[x.2]? with | some m => m | none => none },
            window := s.settings.shift.window, bellWidth := s.settings.shift.bellWidth, bellHigh := s.shift.bell.isSome,
            records := s.shift.records.map fun r => r.number })
      ∧ gives (.readPorts p []) (.ports { ports := ⟨port s.ports.a, port s.ports.b, port s.ports.c⟩, locks := s.locks })

/-- The reads of one thing by its number: READ INPUT, READ UNIT and READ NOTICES by an index or a port code, BAD_ARGUMENT for
any other; READ BURST and READ SHIFT RECORD by a number, NOT_FOUND when nothing bears it (R79, R106, R127, R176, R206).

READ NOTICES' 12 bytes hold the pending and the enable set in 3 bytes each and the interest mask in 2, and 4 others (R206, R211).
In which order they come is free, and that those bytes are whole is as log entry 7 reads R211; that ages are truncated is the
model's choice (log entry 31). -/
def Obligations.ReadsByNumberAnswerTheirSample : Prop :=
  ∀ (p : Port) (args : List Byte) (s : State), Ready p s →
    let gives := fun (c : Instr) (r : Result) => exec c s = .next (answered p .done r s s)
    let refuses := fun (c : Instr) (x : Status) => exec c s = .next (refusedWith p x s)
    let n := argNumber args 0 1
    let m := argNumber args 0 2
    let word := fun (width : Nat) (v : Nat) => (List.range width).map fun k => BitVec.ofNat 8 (v / 256 ^ (width - 1 - k))
    (args.length = 1 →
      (∀ i : Fin 16, i.val = n → gives (.readInput p args) (.input
          { setting := s.settings.inputs.inputs.get i, chatter := s.settings.inputs.chatter, state := (s.inputs.get i).state,
            active := (s.pins.tripIn.getLsbD i.val) ^^ (s.settings.inputs.inputs.get i).activeLow,
            score := (s.inputs.get i).score,
            lastAssert := (s.inputs.get i).lastAssert.map fun r => min 65535 (since s r / 1000000),
            capture := (s.inputs.get i).capture }))
        ∧ (16 ≤ n → refuses (.readInput p args) .badArgument)
        ∧ (∀ u : Fin 8, u.val = n → gives (.readUnit p args) (.unit
          (let x := s.units.get u
          { fitted := s.settings.tally.fitted.getLsbD u.val, code := s.pins.unitState.extractLsb' (4 * u.val) 4, raw := x.raw,
            candidate := x.candidate,
            settleTenths := x.candidate.map fun _ => min 65535 (since s x.settleStart / 1000000),
            mode := x.mode, modeSeconds := x.modeEntry.map fun r => min 4294967295 (since s r / 10000000),
            tallies := x.tallies, counts := x.counts, runningTotal := x.runningTotal,
            limit := s.settings.tally.limits.get u, serviceDue := x.serviceDue, deltas := x.deltas })))
        ∧ (8 ≤ n → refuses (.readUnit p args) .badArgument)
        ∧ (∀ q : Port, portCode (some q) = n →
          let v := s.settings.notice.get q
          let x : NoticesSample :=
            { pending := (s.notices.get q).pending, settings := v,
              holdoffLeft := (s.notices.get q).holdoff.map fun x => (x.length - since s x.start) / 10000,
              attention := (s.notices.get q).attention }
          gives (.readNotices p args) (.notices x)
            ∧ ∃ (others : List Byte) (parts : List (List Byte)), others.length = 4
                ∧ parts.Perm ([word 3 x.pending.toNat, word 3 v.enable.toNat, word 2 v.interest.toNat]
                    ++ others.map fun b => [b])
                ∧ (Result.notices x).bytes = parts.flatten)
        ∧ (n = 0 ∨ 4 ≤ n → refuses (.readNotices p args) .badArgument))
      ∧ (args.length = 2 →
        (∀ r : BurstRecord, s.bursts.records.find? (fun x => x.number.toNat = m) = some r →
            gives (.readBurst p args) (.burst
              { record := r, sinceOpening := min 65535 (since s r.opening / 10000),
                sinceJoin := min 65535 (since s r.lastJoin / 10000) }))
          ∧ ((∀ r ∈ s.bursts.records, r.number.toNat ≠ m) → refuses (.readBurst p args) .notFound)
          ∧ (∀ r : ShiftRecord, s.shift.records.find? (fun x => x.number.toNat = m) = some r →
              gives (.readShiftRecord p args) (.shiftRecord r))
          ∧ ((∀ r ∈ s.shift.records, r.number.toNat ≠ m) → refuses (.readShiftRecord p args) .notFound))

/-- READ LINE samples the line before it clears the counts, which it does when its argument is 1; an argument other than 0 or 1
is BAD_ARGUMENT (R60). That the ages it carries are truncated is the model's choice (log entry 31).

READ LOG gives 1 to 8 entries from the port's cursor on, the missed count before it is cleared, and whether more follow, and
moves the cursor past them; it touches no other port's cursor (R87). For a cursor at an entry of the ring or at its newest end.

SEEK LOG sets the port's cursor at the entry of a held number, or at the newest end for the next number; another number is
clamped to the newest end when it lies 0 to 32,767 past it, and to the oldest entry otherwise (R88). -/
def Obligations.LineAndLogReads : Prop :=
  (∀ (p : Port) (args : List Byte) (s : State), Ready p s → args.length = 1 →
     let millis := fun (r : Reading) => min 65535 (since s r / 10000)
     let seconds := fun (r : Reading) => min 65535 (since s r / 10000000)
     let sample : LineSample :=
       { role := s.settings.line.role, phase := s.tl.phase, ownId := s.settings.line.ownId,
         takeover := s.settings.line.takeover, crossLimit := s.settings.line.crossLimit, sendState := s.tl.sendState,
         receiver := s.tl.receiver, lineFree := decide (s.tl.freeCount = 12 ∧ lineLevel s = .high),
         lastValid := s.tl.lastValid.map fun x => { telegram := x, age := millis x.reading },
         lastOther := s.tl.lastOther.map millis, silence := seconds s.tl.silence,
         lastDisagree := s.tl.lastDisagree.map seconds, counts := s.tl.counts }
     (argNumber args 0 1 = 0 → exec (.readLine p args) s = .next (answered p .done (.line sample) s s))
       ∧ (argNumber args 0 1 = 1 →
           exec (.readLine p args) s = .next (answered p .done (.line sample) s
             { s with tl := { s.tl with counts := ⟨0, 0, 0, 0, 0, 0, 0, 0, 0⟩ } }))
       ∧ (2 ≤ argNumber args 0 1 → exec (.readLine p args) s = .next (refusedWith p .badArgument s)))
    ∧ (∀ (p : Port) (args : List Byte) (k : Nat) (s : State), Ready p s → args.length = 1 → LogInv s →
         s.log.cursors.get p = s.log.nextSeq - BitVec.ofNat 16 s.log.ring.length + BitVec.ofNat 16 k → k ≤ s.log.ring.length →
         let n := argNumber args 0 1
         let entries := (s.log.ring.drop k).take (clampNat 1 8 n)
         let cursor := s.log.cursors.get p + BitVec.ofNat 16 entries.length
         exec (.readLog p args) s = .next
           (answered p (rangeStatus 1 8 n)
             (.log { missed := s.log.missed.get p, moreFollows := decide (cursor ≠ s.log.nextSeq), entries := entries }) s
             { s with log := { s.log with cursors := s.log.cursors.set p cursor, missed := s.log.missed.set p 0 } }))
    ∧ (∀ (p : Port) (args : List Byte) (s : State), Ready p s → args.length = 2 → LogInv s →
         let x := BitVec.ofNat 16 (argNumber args 0 2)
         let oldest := s.log.nextSeq - BitVec.ofNat 16 s.log.ring.length
         let moves := fun (status : Status) (cursor : BitVec 16) =>
           exec (.seekLog p args) s = .next
             (answered p status
               (.seek { cursor := cursor, oldest := s.log.ring.head?.map fun e => e.seq, nextSeq := s.log.nextSeq }) s
               { s with log := { s.log with cursors := s.log.cursors.set p cursor } })
         if (∃ e ∈ s.log.ring, e.seq = x) ∨ x = s.log.nextSeq then moves .done x
         else if (x - s.log.nextSeq).toNat < 32768 then moves .doneClamped s.log.nextSeq
         else moves .doneClamped oldest)

/-! ### Settings and locks -/

/-- SET MARK WINDOW, SET CHATTER INTERVAL and SET COMMIT INTERVAL write one number, clamped into its range, and nothing else
(R41, R77, R143, R189).

SET CLOCK writes its seven settings, each clamped into its range; turning "steps allowed" off discards a step candidate; a
"steps allowed" other than 0 or 1 is BAD_ARGUMENT and nothing is written (R13, R25, R189).

SET FILTER writes one of the four filters whole, and refuses a filter, code, mask, unit or action that does not exist
(R98, R107). -/
def Obligations.SettingsAreWrittenWhole : Prop :=
  (∀ (p : Port) (args : List Byte) (s : State), Ready p s →
     (args.length = 4 →
       exec (.setMarkWindow p args) s = .next (ofGroup p .time (rangeStatus 100 50000 (argNumber args 0 4)) s
         { s with settings := { s.settings with time := { s.settings.time with
             markWindow := min 50000 (max 100 (argNumber args 0 4)) } } }))
       ∧ (args.length = 2 →
         exec (.setChatterInterval p args) s = .next (ofGroup p .inputs (rangeStatus 1 100 (argNumber args 0 2)) s
             { s with settings := { s.settings with inputs := { s.settings.inputs with
                 chatter := min 100 (max 1 (argNumber args 0 2)) } } })
           ∧ exec (.setCommitInterval p args) s = .next (ofGroup p .tally (rangeStatus 60 3600 (argNumber args 0 2)) s
               { s with settings := { s.settings with tally := { s.settings.tally with
                   commitInterval := min 3600 (max 60 (argNumber args 0 2)) } } })))
    ∧ (∀ (p : Port) (args : List Byte) (s : State), Ready p s → args.length = 13 →
         let kp := argNumber args 0 1
         let kf := argNumber args 1 1
         let l := argNumber args 2 4
         let lock := argNumber args 6 2
         let g := argNumber args 9 2
         let w := argNumber args 11 2
         if argNumber args 8 1 ≤ 1 then
           exec (.setClock p args) s = .next (ofGroup p .time
             (if (1 ≤ kp ∧ kp ≤ 6) ∧ kf ≤ 5 ∧ (1000 ≤ l ∧ l ≤ 5000000) ∧ (10 ≤ lock ∧ lock ≤ 10000) ∧ (1 ≤ g ∧ g ≤ 3600)
                 ∧ (1 ≤ w ∧ w ≤ 500) then .done else .doneClamped) s
             { s with
               settings := { s.settings with time := { s.settings.time with
                 kp := clampNat 1 6 kp, kf := min 5 kf, stepLimit := clampNat 1000 5000000 l, lockLimit := clampNat 10 10000 lock,
                 stepsAllowed := decide (argNumber args 8 1 = 1), growthPeriod := clampNat 1 3600 g,
                 pulseWidth := clampNat 1 500 w } }
               clk := { s.clk with candidate := if argNumber args 8 1 = 0 then none else s.clk.candidate } })
         else exec (.setClock p args) s = .next (refusedWith p .badArgument s))
    ∧ (∀ (p : Port) (args : List Byte) (s : State), Ready p s → args.length = 6 →
         let n := argNumber args 0 1
         let code := argNumber args 1 1
         let mask := argNumber args 2 1
         let units := argNumber args 3 2
         let a := argNumber args 5 1
         (∀ i : Fin 4, i.val = n → code < 64 → mask < 64 → units < 512 → a < 8 →
           exec (.setFilter p args) s = .next (ofGroup p .inputs .done s
             { s with settings := { s.settings with inputs := { s.settings.inputs with
                 filters := s.settings.inputs.filters.set i
                   { code := BitVec.ofNat 6 code, mask := BitVec.ofNat 6 mask, units := BitVec.ofNat 9 units,
                     actions := ⟨a.testBit 0, a.testBit 1, a.testBit 2⟩ } } } }))
           ∧ (4 ≤ n ∨ 64 ≤ code ∨ 64 ≤ mask ∨ 512 ≤ units ∨ 8 ≤ a →
               exec (.setFilter p args) s = .next (refusedWith p .badArgument s)))

/-- SET LINE writes the own id, K and the cross-check limit; an id above 7 is BAD_ARGUMENT (R57). SET LINE ROLE gives the role; a
change to STANDBY begins in WAITING; LISTEN is given only while another sender was heard no more than K seconds ago, and is
brought to STANDBY with DONE_CLAMPED otherwise (R56). -/
def Obligations.LineSettingsAreWritten : Prop :=
  ∀ (p : Port) (args : List Byte) (s : State), Ready p s →
    (args.length = 4 →
      let id := argNumber args 0 1
      let k := argNumber args 1 1
      let limit := argNumber args 2 2
      if id ≤ 7 then
        exec (.setLine p args) s = .next (ofGroup p .line
          (if (2 ≤ k ∧ k ≤ 15) ∧ 10 ≤ limit ∧ limit ≤ 10000 then .done else .doneClamped) s
          { s with settings := { s.settings with line := { s.settings.line with
              ownId := BitVec.ofNat 3 id, takeover := clampNat 2 15 k, crossLimit := clampNat 10 10000 limit } } })
      else exec (.setLine p args) s = .next (refusedWith p .badArgument s))
      ∧ (args.length = 1 →
        let given := fun (r : Role) (x : Status) =>
          exec (.setLineRole p args) s = .next (ofGroup p .line x s
            { s with
              settings := { s.settings with line := { s.settings.line with role := r } }
              tl := { s.tl with phase := if r = .standby ∧ s.settings.line.role ≠ .standby then .waiting else s.tl.phase } })
        let heard := ∃ r, s.tl.lastOther = some r ∧ since s r ≤ s.settings.line.takeover * 10000000
        (argNumber args 0 1 = 0 → given .primary .done) ∧ (argNumber args 0 1 = 1 → given .standby .done)
          ∧ (argNumber args 0 1 = 2 → heard → given .listen .done)
          ∧ (argNumber args 0 1 = 2 → ¬heard → given .standby .doneClamped)
          ∧ (3 ≤ argNumber args 0 1 → exec (.setLineRole p args) s = .next (refusedWith p .badArgument s)))

/-- SET LINE MARKS writes the enable and the compensation; turning line marks off stops the peer presence timer; the selected
source is then the one R38 selects (R38, R42).

REARM SOURCE makes the mark fault counter 0 and clears FAULTED, a suspended recogniser begins in WAIT_LOW, and the source is
selected again; it is answered DONE in every state (R36, R38).

A presence timer that has run 3 elapsed seconds expires, and the source is selected again (R38); a change of source makes
TRACKING and LOCKED ACQUIRING with count 0 and clears the history (R17), and sets the first-after-change flag; the line
reference is cleared when the source left is LINE, and kept otherwise (R39). -/
def Obligations.SourceCommandsAndExpiriesSelectAgain : Prop :=
  (∀ (p : Port) (args : List Byte) (s : State), Ready p s → args.length = 3 → SourceInv s →
     let delay := argNumber args 1 2
     if argNumber args 0 1 ≤ 1 then
       let on := decide (argNumber args 0 1 = 1)
       ∃ t, exec (.setLineMarks p args) s = .next (ofGroup p .line (rangeStatus 0 2000 delay) s t)
         ∧ t.settings = { s.settings with line := { s.settings.line with lineMarks := on, delay := min 2000 delay } }
         ∧ t.mq.peerPresence = (if on then s.mq.peerPresence else none) ∧ SourceInv t
         ∧ t.mq.lineRef = (if s.mq.selected = .line ∧ t.mq.selected ≠ .line then none else s.mq.lineRef)
         ∧ (t.mq.selected = s.mq.selected → t.clk = s.clk ∧ t.notices = s.notices ∧ t.shift = s.shift)
         ∧ (t.log = s.log ∧ t.bursts = s.bursts ∧ t.inputs = s.inputs ∧ t.units = s.units ∧ t.store = s.store
             ∧ t.tl = s.tl ∧ t.pins = s.pins ∧ t.supply = s.supply ∧ t.locks = s.locks ∧ t.ports = s.ports)
     else exec (.setLineMarks p args) s = .next (refusedWith p .badArgument s))
    ∧ (∀ (p : Port) (s : State), Ready p s →
         ∃ t, exec (.rearmSource p []) s = .next (answered p .done .empty s t)
           ∧ t.mq.faultCounter = 0 ∧ t.mq.faulted = false
           ∧ t.mq.recogniser = (if s.mq.recogniser = .suspended then .waitLow else s.mq.recogniser)
           ∧ t.mq.selected = (if s.mq.fibrePresence.isSome then .fibre
               else if s.settings.line.lineMarks = true ∧ s.mq.peerPresence.isSome then .line else .noSource)
           ∧ t.mq.lineRef = (if s.mq.selected = .line ∧ t.mq.selected ≠ .line then none else s.mq.lineRef)
           ∧ (t.mq.fibreRef = s.mq.fibreRef ∧ t.mq.totals = s.mq.totals ∧ t.mq.streak = s.mq.streak
               ∧ t.mq.pattern = s.mq.pattern ∧ t.mq.fibrePresence = s.mq.fibrePresence)
           ∧ (t.mq.selected = s.mq.selected → t.clk = s.clk ∧ t.notices = s.notices ∧ t.shift = s.shift)
           ∧ (t.settings = s.settings ∧ t.log = s.log ∧ t.bursts = s.bursts ∧ t.inputs = s.inputs ∧ t.units = s.units
               ∧ t.store = s.store ∧ t.tl = s.tl ∧ t.pins = s.pins ∧ t.supply = s.supply ∧ t.locks = s.locks ∧ t.ports = s.ports))
    ∧ (∀ (r : Reading) (s : State), s.supply.stopped = false → 30000000 ≤ since s r →
         let changes := fun (t : State) =>
           (t.mq.selected = s.mq.selected → t.clk = s.clk ∧ t.notices = s.notices)
             ∧ (t.mq.selected ≠ s.mq.selected →
                 t.mq.firstAfterChange = true ∧ t.clk.prevMark = none ∧ t.clk.window = [] ∧ t.clk.acqCount = 0
                   ∧ t.clk.lockCount = 0 ∧ t.clk.candidate = none
                   ∧ t.clk.state = (if s.clk.state = .tracking ∨ s.clk.state = .locked then .acquiring else s.clk.state))
             ∧ t.mq.lineRef = (if s.mq.selected = .line ∧ t.mq.selected ≠ .line then none else s.mq.lineRef)
             ∧ t = { s with clk := t.clk, mq := t.mq, shift := t.shift, notices := t.notices }
         let lineElse : Source := if s.settings.line.lineMarks = true ∧ s.mq.peerPresence.isSome then .line else .noSource
         let fibreElse : Source := if s.mq.faulted = false ∧ s.mq.fibrePresence.isSome then .fibre else .noSource
         (s.mq.fibrePresence = some r →
           ∃ t, exec .fibrePresenceExpiry s = .next t ∧ t.mq.fibrePresence = none ∧ t.mq.selected = lineElse ∧ changes t)
           ∧ (s.mq.peerPresence = some r →
               ∃ t, exec .peerPresenceExpiry s = .next t ∧ t.mq.peerPresence = none ∧ t.mq.selected = fibreElse ∧ changes t))

/-- LOCK GROUP takes a free lock, or keeps the port's own, with DONE, and is LOCKED at another port's; a value that is no group
is BAD_ARGUMENT (R192).

UNLOCK GROUP: held by the asking port, or free, the lock is free after it and the answer is DONE; held by another port it is
unchanged and the answer LOCKED; a value that is no group is refused with BAD_ARGUMENT (R193).

A held lock stays held until its holder unlocks it, or a line reset, a warm start or a cold start clears it (R192); the loss of the
working memory apart. -/
def Obligations.LocksAreTakenAndFreed : Prop :=
  (∀ (p : Port) (args : List Byte) (s : State), Ready p s → args.length = 1 →
     (∀ g, groupOf (argNumber args 0 1) = some g →
       (s.locks.holder g = none ∨ s.locks.holder g = some p →
         exec (.lockGroup p args) s = .next (answered p .done .empty s { s with locks := s.locks.assign g (some p) }))
         ∧ (∀ q, q ≠ p → s.locks.holder g = some q → exec (.lockGroup p args) s = .next (refusedWith p .locked s)))
       ∧ (6 ≤ argNumber args 0 1 → exec (.lockGroup p args) s = .next (refusedWith p .badArgument s)))
    ∧ (∀ (p : Port) (args : List Byte) (s : State), Ready p s → args.length = 1 →
         (∀ g, groupOf (argNumber args 0 1) = some g →
           (s.locks.holder g = none ∨ s.locks.holder g = some p →
             exec (.unlockGroup p args) s = .next (answered p .done .empty s { s with locks := s.locks.assign g none }))
             ∧ (∀ q, q ≠ p → s.locks.holder g = some q → exec (.unlockGroup p args) s = .next (refusedWith p .locked s)))
           ∧ (6 ≤ argNumber args 0 1 → exec (.unlockGroup p args) s = .next (refusedWith p .badArgument s)))
    ∧ (∀ (c : Instr) (g : Group) (q : Port) (s t : State), exec c s = .next t → s.locks.holder g = some q →
         (∀ args, c ≠ .unlockGroup q args) → c ≠ .lineReset → c ≠ .warmStart → c ≠ .coldStart → c ≠ .backupCellLost →
         (c ≠ .retainEntry ∨ s.supply.cellLost = false) → t.locks.holder g = some q)

/-- SAVE SETTINGS with no group held by another port leaves its port EXECUTING without an answer, bound to a settings request
that waits or to the settings program that begins at once; with a group held by another port it is LOCKED (R184, R195). -/
def Obligations.SaveSettingsBindsThePort : Prop :=
  ∀ (p : Port) (s : State), Ready p s → StoreInv s →
    ((∀ g, heldByOther s p g = false) →
      ∃ t, exec (.saveSettings p []) s = .next t
        ∧ (t.ports.get p).state = .executing ∧ (t.ports.get p).answer = none ∧ (t.ports.get p).transaction = none
        ∧ (t.ports.get p).overrun = (s.ports.get p).overrun
        ∧ (((t.ports.get p).binding = some .queued ∧ t.store.isQueued .settings = true)
            ∨ ((t.ports.get p).binding = some .program
                ∧ ∃ x ∈ t.store.program, x.content = .settings s.settings ∧ x.start = now s ∧ x.retry = false))
        ∧ (t.clk = s.clk ∧ t.mq = s.mq ∧ t.tl = s.tl ∧ t.inputs = s.inputs ∧ t.log = s.log ∧ t.bursts = s.bursts
            ∧ t.units = s.units ∧ t.supply = s.supply ∧ t.shift = s.shift ∧ t.settings = s.settings ∧ t.locks = s.locks
            ∧ t.notices = s.notices ∧ t.pins = s.pins
            ∧ t.store = { s.store with queue := t.store.queue, program := t.store.program }))
      ∧ ((∃ g, heldByOther s p g = true) → exec (.saveSettings p []) s = .next (refusedWith p .locked s))

/-! ### The Time Base -/

/-- SET DATE and the pending-date slot (R20): an empty slot takes the date; the date it holds gains the port among its setters;
another date replaces one that the port alone set; any other disagreement empties the slot, is answered CONFLICT, and posts
DATE_CONFLICT to the port and to the ports of the old set. A second of day of 86,400 or more is BAD_ARGUMENT. -/
def Obligations.SetDateMovesTheSlot : Prop :=
  ∀ (p : Port) (args : List Byte) (s : State), Ready p s → args.length = 5 →
    let day := BitVec.ofNat 16 (argNumber args 0 2)
    let second := argNumber args 2 3
    let only : Setters := { a := decide (p = .a), b := decide (p = .b), c := decide (p = .c), line := false }
    let slotIs := fun (x : Option PendingDate) => ({ s with clk := { s.clk with slot := x } } : State)
    (86400 ≤ second → exec (.setDate p args) s = .next (refusedWith p .badArgument s))
      ∧ (second < 86400 →
        (s.clk.slot = none →
          exec (.setDate p args) s = .next (answered p .done .empty s (slotIs (some ⟨day, second, only⟩))))
          ∧ (∀ d, s.clk.slot = some d → d.day = day ∧ d.second = second →
              exec (.setDate p args) s = .next (answered p .done .empty s (slotIs (some ⟨day, second,
                { a := d.setters.a || only.a, b := d.setters.b || only.b, c := d.setters.c || only.c,
                  line := d.setters.line }⟩))))
          ∧ (∀ d, s.clk.slot = some d → ¬(d.day = day ∧ d.second = second) → d.setters = only →
              exec (.setDate p args) s = .next (answered p .done .empty s (slotIs (some ⟨day, second, only⟩))))
          ∧ (∀ d, s.clk.slot = some d → ¬(d.day = day ∧ d.second = second) → d.setters ≠ only →
              exec (.setDate p args) s = .next (answered p .conflict .empty s
                (postWhere (fun q => decide (q = p) || d.setters.has q) .dateConflict (slotIs none)))))

/-- An issued station second boundary with an empty slot, for a role or a grade that does not send and a second of day at which
no boundary of the schedule stands (R1, R23, R50, R157): the seconds pulse starts, unless one runs or the grade is E, and
nothing else changes but the count of issued boundaries.

The date in the slot applied at a boundary (R10, R22): the slot is emptied; the date the part already shows makes no step;
another is a step, which gives that day and second with the fraction as it was, raises the epoch by one, makes exactly one
TIME_STEP entry with source DATE, the size of the step and the epoch after it, posts TIME_STEP, requests the time record, and
drops the previous-mark record and the step candidate. The first date leaves UNSET for the discipline stage (R18). The seconds
pulse then starts by the grade after the date, so that the boundary of the first date gives one (R23).

A forward date step other than the first is reported to the Shift Controller, whose markers are then those of the report; with
no step, a backward one or the first date no boundary fires but one that stands at the second now shown. That one, when it is due
on the day now shown, has fired in every case: its marker shows that day; one not due keeps its marker (R157, R158).

That an issued boundary waits in a count until its row is taken, and the order of its receivers, are the model's choice (log
entries 2 and 11). -/
def Obligations.ABoundaryStartsThePulseAndAppliesTheDate : Prop :=
  (∀ s : State, working s = true → s.clk.boundaries ≠ 0 → s.clk.slot = none →
     (s.settings.line.role = .listen ∨ (s.settings.line.role ≠ .standby ∧ (s.clk.state = .free ∨ s.clk.state = .unset))) →
     (∀ b ∈ s.settings.shift.schedule, b.second ≠ s.clk.time.second) →
     exec .stationSecondBoundary s = .next { s with clk := { s.clk with
       boundaries := s.clk.boundaries - 1
       secOut := if s.clk.secOut = none ∧ s.clk.state ≠ .unset then
           some { start := now s, length := s.settings.time.pulseWidth * 10000 } else s.clk.secOut } })
    ∧ (∀ (d : PendingDate) (s : State), working s = true → s.clk.boundaries ≠ 0 → s.clk.slot = some d →
         let same := d.day = s.clk.time.day ∧ d.second = s.clk.time.second
         let left : ClockState := if s.clk.state = .unset then
             (match s.clk.stage with | .free => .free | .acquiring => .acquiring | .tracking => .tracking) else s.clk.state
         let size : StepSize :=
           { seconds := max (-2147483647) (min 2147483647
               (dayDifference d.day s.clk.time.day * 86400 + ((d.second : Int) - s.clk.time.second))), micros := 0 }
         let before := lastTickBefore s.clk.time
         ∃ t, exec .stationSecondBoundary s = .next t
           ∧ t.clk.slot = none ∧ t.clk.boundaries = s.clk.boundaries - 1 ∧ t.clk.state = left
           ∧ t.clk.time = { s.clk.time with day := d.day, second := d.second } ∧ now t = now s
           ∧ t.clk.trim = s.clk.trim ∧ t.clk.slew = s.clk.slew
           ∧ t.clk.secOut = (if s.clk.secOut = none then
               some { start := now s, length := s.settings.time.pulseWidth * 10000 } else s.clk.secOut)
           ∧ (same → t.clk.epoch = s.clk.epoch ∧ t.log = s.log ∧ t.clk.prevMark = s.clk.prevMark
               ∧ t.clk.candidate = s.clk.candidate)
           ∧ (¬same → t.clk.epoch = s.clk.epoch + 1 ∧ t.clk.prevMark = none ∧ t.clk.candidate = none
               ∧ t.log.nextSeq = s.log.nextSeq + 1
               ∧ (∃ e, t.log.ring.getLast? = some e ∧ e.seq = s.log.nextSeq ∧ e.stamp.stamp = t.clk.time.stamp
                   ∧ e.stamp.epoch = t.clk.epoch ∧ e.shift = s.shift.current.number
                   ∧ e.body = .timeStep (if s.clk.state = .unset then none else some size)
                       (decide (s.clk.state = .unset)) .date)
               ∧ (∀ p, hasKind (s.settings.notice.get p).enable .timeStep = true →
                   hasKind (t.notices.get p).pending .timeStep = true)
               ∧ ((∃ q ∈ t.store.queue, q.record = .time) ∨ ∃ x, t.store.program = some x ∧ x.content.record = .time))
           ∧ (¬same → s.clk.state ≠ .unset → s.clk.time.fraction < 10000000 → 0 < tickDifference t.clk.time before →
               t.shift.markers = (reportStep before t.clk.time s).shift.markers)
           ∧ (same ∨ s.clk.state = .unset ∨ tickDifference t.clk.time before ≤ 0 →
               ∀ (i : Nat) (b : Boundary), s.settings.shift.schedule[i]? = some b → b.second ≠ d.second →
                 t.shift.markers[i]? = s.shift.markers[i]?)
           ∧ (s.clk.time.fraction < 10000000 → ∀ (i : Nat) (b : Boundary), s.settings.shift.schedule[i]? = some b →
               b.second = d.second →
               (∀ j < i, ∀ c : Boundary, s.settings.shift.schedule[j]? = some c → c.second ≠ b.second) →
               (s.shift.markers[i]? = some none → t.shift.markers[i]? = some (some d.day))
                 ∧ ∀ m, s.shift.markers[i]? = some (some m) →
                     t.shift.markers[i]? = some (some (if dayLater d.day m then d.day else m))))

/-- A boundary at which the part sends (R50, R51): PRIMARY, STANDBY in SENDING, or a waiting STANDBY whose silence timer has
reached K, which goes to SENDING and counts a takeover at it (R55), at grade A, B or C, with the line free, the receiver idle and
no telegram going out: the telegram begins, and its start bit pulls the line low, whatever the other parties do (R45). It carries
the date, the epoch and the grade as they stand once a date in the slot is applied (R1, R22, R50). With the line not free it
counts a busy skip instead.

A waiting STANDBY whose silence timer has reached K at a boundary goes to SENDING and counts a takeover; before K it does
nothing on the line (R55).

That an issued boundary waits in a count until its row is taken is the model's choice (log entry 2). -/
def Obligations.ABoundarySendsOrTakesOver : Prop :=
  (∀ s : State, working s = true → s.clk.boundaries ≠ 0 →
     (s.settings.line.role = .primary ∨ (s.settings.line.role = .standby
       ∧ (s.tl.phase = .sending ∨ s.settings.line.takeover * 10000000 ≤ since s s.tl.silence))) →
     (datedState s ≠ .free ∧ datedState s ≠ .unset) →
     let takes := s.settings.line.role = .standby ∧ s.tl.phase = .waiting
     let counts : LineCounts := if takes then { s.tl.counts with takeovers := satSucc 65535 s.tl.counts.takeovers } else s.tl.counts
     let phase : Phase := if takes then .sending else s.tl.phase
     ∃ t, exec .stationSecondBoundary s = .next t
       ∧ t.clk.time = datedTime s ∧ t.clk.epoch = datedEpoch s ∧ t.clk.state = datedState s
       ∧ (s.tl.freeCount = 12 ∧ s.pins.timeLine = .high ∧ s.tl.sendState = .idle ∧ s.tl.receiver = .idle →
           lineLevel t = .low ∧ t.tl.sendState = .sending ∧ t.tl.receiver = .own
             ∧ t.tl.freeCount = 0 ∧ t.tl.highSince = none ∧ t.tl.readBits = [] ∧ t.tl.counts = counts ∧ t.tl.phase = phase
             ∧ t.tl.outgoing = some (telegramBits s.settings.line.ownId (datedState s).grade (datedEpoch s) (datedTime s).day
                 (datedTime s).second)
             ∧ ∃ c, t.tl.capture = some c ∧ c.reading = now s ∧ c.time = datedTime s ∧ c.epoch = datedEpoch s
                 ∧ c.grade = (datedState s).grade ∧ c.contested = false)
       ∧ (s.tl.freeCount ≠ 12 ∨ lineLevel s = .low ∨ s.tl.sendState = .sending ∨ s.tl.receiver ≠ .idle →
           t.tl = { s.tl with phase := phase, counts := { counts with busySkips := satSucc 65535 s.tl.counts.busySkips } })
       ∧ t.pins = s.pins ∧ t.settings = s.settings ∧ t.units = s.units ∧ t.inputs = s.inputs ∧ t.mq = s.mq
       ∧ t.supply = s.supply ∧ t.locks = s.locks
       ∧ (s.clk.slot = none → t.log = s.log ∧ t.bursts = s.bursts ∧ t.store = s.store ∧ t.ports = s.ports))
    ∧ (∀ s : State, working s = true → s.clk.boundaries ≠ 0 → s.settings.line.role = .standby → s.tl.phase = .waiting →
         ∃ t, exec .stationSecondBoundary s = .next t
           ∧ (s.settings.line.takeover * 10000000 ≤ since s s.tl.silence →
               t.tl.phase = .sending ∧ t.tl.counts.takeovers = satSucc 65535 s.tl.counts.takeovers)
           ∧ (since s s.tl.silence < s.settings.line.takeover * 10000000 → t.tl = s.tl ∧ t.pins = s.pins))

/-- A schedule boundary that stands at the second of a station second boundary and is due on its day fires at grades A to D
(R157, R159): its marker takes the day; ON_SHIFT, a handover opens, opened by the schedule with the boundary's crew and stamped
with the time, the epoch and the grade of that moment, and the bell rings; with a handover open already, the missed-boundary count
gains 1. In every line role. The second, the day and the grade are those once a date in the slot is applied (R1, R22), the date
shown, a first date or a backward step (R158). In UNSET, at a second where no boundary stands, and where the boundary is not due
on the day, nothing fires (R156, R157). A forward step by the date in the slot does what its report does, with the stamp after
the step, and the boundary at the second now shown does not fire again (R158).

A step reported to the Shift Controller (R158): a backward one, and any in UNSET, fires nothing. A forward one fires each
boundary whose latest instant at or before the end of the step lies after its start and which is due on the day of that instant:
its marker takes that day; ON_SHIFT, the earliest of them opens the handover and the others count as missed; with a handover
open already all of them count as missed. No other marker moves.

That an issued boundary waits in a count until its row is taken, and the order of its receivers, are the model's choice (log
entries 2 and 11). -/
def Obligations.ABoundaryFiresTheSchedule : Prop :=
  (∀ (i : Nat) (b : Boundary) (s : State), working s = true → s.clk.boundaries ≠ 0 → datedState s ≠ .unset → ShiftInv s →
     (datedTime s = s.clk.time ∨ s.clk.state = .unset ∨ tickDifference (datedTime s) (lastTickBefore s.clk.time) ≤ 0) →
     s.settings.shift.schedule[i]? = some b → b.second = (datedTime s).second →
     (∀ j < i, ∀ c, s.settings.shift.schedule[j]? = some c → c.second ≠ b.second) →
     (s.shift.markers[i]? = some none
       ∨ ∃ m, s.shift.markers[i]? = some (some m) ∧ dayLater (datedTime s).day m = true) →
     ∃ t, exec .stationSecondBoundary s = .next t
       ∧ t.shift.markers = s.shift.markers.set i (some (datedTime s).day)
       ∧ (s.shift.state = .onShift →
           t.shift.state = .handoverOpen
             ∧ t.shift.handover = some
                 { openedBy := .schedule i b.second, expected := b.crew, stamp := datedStamp s, reading := now s,
                   released := none, accepted := none, missed := 0 }
             ∧ t.shift.bell = some { start := now s, length := s.settings.shift.bellWidth * 1000000 }
             ∧ (∀ p, hasKind (s.settings.notice.get p).enable .handoverOpen = true →
                 hasKind (t.notices.get p).pending .handoverOpen = true)
             ∧ (s.clk.slot = none → t.notices = (post .handoverOpen s).notices))
       ∧ (s.shift.state ≠ .onShift →
           t.shift.state = s.shift.state ∧ t.shift.bell = s.shift.bell ∧ (s.clk.slot = none → t.notices = s.notices)
             ∧ ∃ h, s.shift.handover = some h
                 ∧ t.shift.handover = some { h with missed := if h.missed < 65535 then h.missed + 1 else h.missed })
       ∧ t.shift.records = s.shift.records ∧ t.settings = s.settings
       ∧ (s.clk.slot = none → t.shift.current = s.shift.current ∧ t.log = s.log))
    ∧ (∀ s : State, working s = true → s.clk.boundaries ≠ 0 →
         (datedTime s = s.clk.time ∨ s.clk.state = .unset ∨ tickDifference (datedTime s) (lastTickBefore s.clk.time) ≤ 0) →
         (datedState s = .unset ∨ (∀ b ∈ s.settings.shift.schedule, b.second ≠ (datedTime s).second)
           ∨ ∃ (i : Nat) (b : Boundary) (m : BitVec 16), s.settings.shift.schedule[i]? = some b
               ∧ b.second = (datedTime s).second
               ∧ (∀ j < i, ∀ c : Boundary, s.settings.shift.schedule[j]? = some c → c.second ≠ b.second)
               ∧ s.shift.markers[i]? = some (some m) ∧ dayLater (datedTime s).day m = false) →
         ∃ t, exec .stationSecondBoundary s = .next t ∧ t.shift = { s.shift with current := t.shift.current }
           ∧ (s.clk.slot = none → t.shift = s.shift ∧ t.notices = s.notices))
    ∧ (∀ s : State, working s = true → s.clk.boundaries ≠ 0 → ShiftInv s → s.clk.time.fraction < 10000000 →
         s.clk.state ≠ .unset → datedTime s ≠ s.clk.time →
         0 < tickDifference (datedTime s) (lastTickBefore s.clk.time) →
         let r := (reportStep (lastTickBefore s.clk.time) (datedTime s) s).shift
         let restamped := r.handover.map fun h => { h with stamp := datedStamp s }
         ∃ t, exec .stationSecondBoundary s = .next t
           ∧ t.shift = { r with handover := if s.shift.state = .onShift then restamped else r.handover })
    ∧ (∀ (before after : StationTime) (s : State), ShiftInv s →
         let length := tickDifference after before
         let day := fun (b : Boundary) => if b.second ≤ after.second then after.day else after.day - 1
         let back := fun (b : Boundary) => tickDifference after { day := day b, second := b.second, fraction := 0 }
         let due := fun (i : Nat) (d : BitVec 16) =>
           match s.shift.markers[i]? with | some (some m) => dayLater d m | _ => true
         let fired := s.settings.shift.schedule.zipIdx.filter fun x => decide (back x.1 < length) && due x.2 (day x.1)
         let t := reportStep before after s
         (s.clk.state = .unset ∨ length ≤ 0 → t = s)
           ∧ (s.clk.state ≠ .unset → 0 < length →
               (∀ x ∈ fired, t.shift.markers[x.2]? = some (some (day x.1)))
                 ∧ (∀ i, (∀ x ∈ fired, x.2 ≠ i) → t.shift.markers[i]? = s.shift.markers[i]?)
                 ∧ (fired = [] → t = s)
                 ∧ (∀ x ∈ fired, (∀ y ∈ fired, y ≠ x → back y.1 < back x.1) → s.shift.state = .onShift →
                     t.shift.state = .handoverOpen ∧ t.notices = (post .handoverOpen s).notices
                       ∧ t.shift.bell = some { start := now s, length := s.settings.shift.bellWidth * 1000000 }
                       ∧ t.shift.handover = some
                           { openedBy := .schedule x.2 x.1.second, expected := x.1.crew, stamp := stampNow s,
                             reading := now s, released := none, accepted := none, missed := min 65535 (fired.length - 1) })
                 ∧ (∀ h, s.shift.state ≠ .onShift → s.shift.handover = some h → h.missed ≤ 65535 →
                     t.shift.state = s.shift.state ∧ t.notices = s.notices ∧ t.shift.bell = s.shift.bell
                       ∧ t.shift.handover = some { h with missed := min 65535 (h.missed + fired.length) }))
           ∧ t = { s with shift := t.shift, notices := t.notices }
           ∧ t.shift.current = s.shift.current ∧ t.shift.records = s.shift.records)

/-- An accepted mark taken by slew (R6 to R9, R13, R15, R16, R18): |P| at most the step limit, or steps not allowed, when a larger
P is answered with a slew of 500 against its sign. In UNSET the discipline stage moves in the clock state's place.

The slew is -P over 2^kp, truncated and clamped to 500; the trim moves by the residual only for n = 1 after a trim-usable mark of
the history; U_mark joins the window and U is its largest value; the mark becomes the previous-mark record; the silence timer
restarts; no step is taken.

An acquisition mark, and any mark in FREE or HOLDOVER, clears the history and gives ACQUIRING with count 0. In ACQUIRING the second
in-window mark gives TRACKING. In TRACKING the eighth fibre mark in a row within the lock limit gives LOCKED, and any other mark
empties the count; the stage counts none. In LOCKED a mark past twice the lock limit gives TRACKING. A change of clock state,
and it alone, posts CLOCK_STATE (R14); the shift's worst grade follows a poorer one (R161).

The model's choices: that an in-window mark in FREE or HOLDOVER clears the history, leaves the trim and zeroes the lock count (log
entry 14), and that the silence timer runs from the moment the mark is taken (log entry 20). -/
def Obligations.AMarkWithinTheLimitDisciplines : Prop :=
  ∀ (m : HandedMark) (s : State), working s = true → m.fraction < 10000000 →
    let c := s.clk
    let limits := s.settings.time
    let p : Int := if m.fraction < 5000000 then m.fraction else (m.fraction : Int) - 10000000
    p.natAbs ≤ limits.stepLimit ∨ limits.stepsAllowed = false →
    let t := processMark m s
    let unset := c.state = .unset
    let discipline : ClockState := if unset then
      (match c.stage with | .free => .free | .acquiring => .acquiring | .tracking => .tracking) else c.state
    let moves := fun (x : ClockState) (stage : Stage) =>
      (unset → t.clk.state = .unset ∧ t.clk.stage = stage) ∧ (¬unset → t.clk.state = x ∧ t.clk.stage = c.stage)
    let stays := t.clk.state = c.state ∧ t.clk.stage = c.stage
    let acquisition := m.n = none ∨ discipline = .free ∨ discipline = .holdover
    let slew := if p.natAbs ≤ limits.stepLimit then max (-500) (min 500 (-(Int.tdiv p (2 ^ limits.kp))))
      else if 0 < p then -500 else 500
    let um := min 65535 (max 1 ((p.natAbs + 9) / 10))
    t.clk.slew = slew
      ∧ (∀ prev, c.prevMark = some prev → ¬acquisition → m.n = some 1 → prev.trimUsable = true →
          t.clk.trim = max (-200000) (min 200000
            (c.trim - Int.tdiv ((p - prev.p - prev.s) * 100) (2 ^ limits.kf))))
      ∧ (acquisition ∨ c.prevMark = none ∨ m.n ≠ some 1
            ∨ (∃ prev, c.prevMark = some prev ∧ prev.trimUsable = false) → t.clk.trim = c.trim)
      ∧ t.clk.window = (if acquisition then [] else if c.window.length < 8 then c.window else c.window.drop 1) ++ [um]
      ∧ (um ≤ t.clk.u ∧ (∀ u ∈ t.clk.window, u ≤ t.clk.u) ∧ t.clk.u ∈ t.clk.window)
      ∧ t.clk.prevMark = some { p := p, s := slew, source := m.source, trimUsable := true }
      ∧ t.clk.candidate = none ∧ t.clk.silence = some (now s) ∧ t.clk.time = c.time ∧ t.clk.epoch = c.epoch
      ∧ (acquisition → moves .acquiring .acquiring ∧ t.clk.acqCount = 0 ∧ t.clk.lockCount = 0)
      ∧ (¬acquisition → discipline = .acquiring →
          (c.acqCount = 0 → stays ∧ t.clk.acqCount = 1 ∧ t.clk.lockCount = c.lockCount)
            ∧ (1 ≤ c.acqCount → moves .tracking .tracking ∧ t.clk.acqCount = 2 ∧ t.clk.lockCount = 0))
      ∧ (¬acquisition → discipline = .tracking →
          let near := m.source = .fibre ∧ p.natAbs ≤ limits.lockLimit ∧ ¬unset
          (near → c.lockCount < 7 → stays ∧ t.clk.lockCount = c.lockCount + 1)
            ∧ (near → 7 ≤ c.lockCount → moves .locked .tracking) ∧ (¬near → stays ∧ t.clk.lockCount = 0))
      ∧ (¬acquisition → discipline = .locked →
          (2 * limits.lockLimit < p.natAbs → moves .tracking .tracking ∧ t.clk.lockCount = 0)
            ∧ (p.natAbs ≤ 2 * limits.lockLimit → stays ∧ t.clk.lockCount = c.lockCount))
      ∧ t.notices = (if t.clk.state = c.state then s else post .clockState s).notices
      ∧ t.shift = (if t.clk.state = c.state then s.shift else { s.shift with current := { s.shift.current with
          worst := if s.shift.current.worst.rank < (gradeNow t).rank then gradeNow t else s.shift.current.worst } })
      ∧ t = { s with clk := t.clk, shift := t.shift, notices := t.notices }

/-- A mark past the step limit with steps allowed (R8, R11, R12). An acquisition mark, or one in FREE or HOLDOVER, clears the history,
and its P is the candidate; the slew is 0 and the state ACQUIRING. A mark in ACQUIRING, TRACKING or LOCKED: with no candidate, or
one it does not agree with, its P becomes the candidate; a first agreement is counted; a second takes the step. In UNSET the
discipline stage moves in the clock state's place (R18).

The step moves station time by -P, back or forward, so that the mark falls on a boundary; the epoch rises by one, the slew and the
history are cleared, U is 1, ACQUIRING goes on and TRACKING or LOCKED is TRACKING with count 0; one TIME_STEP entry with P's size
is made, TIME_STEP is posted and the time record requested (R10); the edge, the pattern and the telegram in progress are noted
(R34).

A forward step that reaches the next second issues one boundary, which the receivers take (R1): the seconds pulse starts unless one
runs or the grade is E (R23). The Shift Controller's markers are those of a step reported from the old station time to the new (R158). For an
empty slot.

The model's choices: the clearing by an in-window mark in FREE or HOLDOVER (log entry 14); the previous-mark record absent after
the step (15); the silence timer run from the mark's taking (20); the noting by stepped marks and the last step's reading (29). -/
def Obligations.MarksPastTheLimitConfirmAStep : Prop :=
  ∀ (m : HandedMark) (s : State), working s = true → m.fraction < 10000000 → s.settings.time.stepsAllowed = true →
    s.clk.time.second < 86400 → s.clk.time.fraction < 10000000 → s.clk.slot = none →
    let c := s.clk
    let p : Int := if m.fraction < 5000000 then m.fraction else (m.fraction : Int) - 10000000
    s.settings.time.stepLimit < p.natAbs →
    let t := processMark m s
    let um := min 65535 (max 1 ((p.natAbs + 9) / 10))
    let unset := c.state = .unset
    let discipline : ClockState := if unset then
      (match c.stage with | .free => .free | .acquiring => .acquiring | .tracking => .tracking) else c.state
    let moves := fun (x : ClockState) (stage : Stage) =>
      (unset → t.clk.state = .unset ∧ t.clk.stage = stage) ∧ (¬unset → t.clk.state = x ∧ t.clk.stage = c.stage)
    let same := t.clk.state = c.state ∧ t.clk.stage = c.stage
    let waits := fun (x : Candidate) (window : List Nat) =>
      t.clk.candidate = some x ∧ t.clk.slew = 0 ∧ t.clk.epoch = c.epoch ∧ t.clk.time = c.time ∧ t.log = s.log ∧ t.mq = s.mq
        ∧ t.clk.window = window ++ [um] ∧ t.clk.silence = some (now s)
        ∧ t.clk.prevMark = some { p := p, s := 0, source := m.source, trimUsable := false }
    (m.n = none ∨ discipline = .free ∨ discipline = .holdover →
      waits { p := p, agree := 0 } [] ∧ moves .acquiring .acquiring ∧ t.clk.acqCount = 0 ∧ t.clk.lockCount = 0)
      ∧ (m.n ≠ none → discipline = .acquiring ∨ discipline = .tracking ∨ discipline = .locked →
        let kept := if c.window.length < 8 then c.window else c.window.drop 1
        let stays := same ∧ t.clk.acqCount = c.acqCount ∧ t.clk.lockCount = c.lockCount
        (c.candidate = none ∨ (∃ x, c.candidate = some x ∧ 20 < (p - x.p).natAbs) →
          waits { p := p, agree := 0 } kept ∧ stays)
          ∧ (∀ x, c.candidate = some x → (p - x.p).natAbs ≤ 20 → x.agree = 0 → waits { p := x.p, agree := 1 } kept ∧ stays)
          ∧ (∀ x, c.candidate = some x → (p - x.p).natAbs ≤ 20 → x.agree ≠ 0 →
              let moved : Int := c.time.fraction - p
              t.clk.candidate = none ∧ t.clk.slew = 0 ∧ t.clk.epoch = c.epoch + 1 ∧ t.clk.window = [1] ∧ t.clk.u = 1
                ∧ t.clk.prevMark = none ∧ t.clk.acqCount = 0 ∧ t.clk.lockCount = 0 ∧ t.clk.silence = some (now s)
                ∧ (discipline = .acquiring → same) ∧ (discipline ≠ .acquiring → moves .tracking .tracking)
                ∧ (0 ≤ moved ∧ moved < 10000000 → t.clk.time = { c.time with fraction := moved.toNat })
                ∧ (moved < 0 → t.clk.time.fraction = (moved + 10000000).toNat
                    ∧ (c.time.second ≠ 0 → t.clk.time.second = c.time.second - 1 ∧ t.clk.time.day = c.time.day)
                    ∧ (c.time.second = 0 → t.clk.time.second = 86399 ∧ t.clk.time.day = c.time.day - 1))
                ∧ (10000000 ≤ moved → t.clk.time.fraction = (moved - 10000000).toNat
                    ∧ (c.time.second < 86399 → t.clk.time.second = c.time.second + 1 ∧ t.clk.time.day = c.time.day)
                    ∧ (86399 ≤ c.time.second → t.clk.time.second = 0 ∧ t.clk.time.day = c.time.day + 1))
                ∧ t.clk.secOut = (if 10000000 ≤ moved ∧ c.secOut = none ∧ ¬unset then
                    some { start := now s, length := s.settings.time.pulseWidth * 10000 } else c.secOut)
                ∧ t.shift.markers = (reportStep c.time t.clk.time s).shift.markers
                ∧ t.mq = { s.mq with
                    lastStep := some (now s)
                    edge := s.mq.edge.map fun e => { e with stepped := true }
                    pattern := s.mq.pattern.map fun y => { y with stepped := true } }
                ∧ (moved < 10000000 ∨ s.settings.line.role = .listen →
                    t.tl = { s.tl with capture := s.tl.capture.map fun y => { y with stepped := true } })
                ∧ t.log.nextSeq = s.log.nextSeq + 1
                ∧ (∃ e, t.log.ring.getLast? = some e
                    ∧ e.body = .timeStep (some { seconds := 0, micros := Int.tdiv (-p) 10 }) false
                        (if m.source = .fibre then .fibre else .line))
                ∧ (∀ q, hasKind (s.settings.notice.get q).enable .timeStep = true →
                    hasKind (t.notices.get q).pending .timeStep = true)
                ∧ ((∃ q ∈ t.store.queue, q.record = .time) ∨ ∃ y, t.store.program = some y ∧ y.content.record = .time)))

/-- The mark silence timer runs out 3 elapsed seconds after the last accepted mark (R16, R18): ACQUIRING, TRACKING and LOCKED go
to HOLDOVER with U kept, or to FREE when U is already 65,535; in UNSET the stage becomes FREE; FREE and HOLDOVER stand. Where
it acts, the slew is 0 and the previous-mark record, the candidate and the window are cleared.

In HOLDOVER U grows by 1 each time an interval of G has run, and at 65,535 the state becomes FREE; the next interval takes the G
then in force (R19).

The output pulses and the holdoffs end when their length has run (R23, R174, R204): SEC_OUT and BELL_OUT go low, and a holdoff
that ends asserts its port's attention line when a kind is pending. -/
def Obligations.SilenceGrowthAndPulsesRunOut : Prop :=
  (∀ (r : Reading) (s : State), s.supply.stopped = false → s.clk.silence = some r → 30000000 ≤ since s r →
     ∃ t, exec .markSilenceExpiry s = .next t
       ∧ t.clk = { s.clk with
           silence := none, state := t.clk.state, stage := t.clk.stage, slew := t.clk.slew, prevMark := t.clk.prevMark,
           window := t.clk.window, candidate := t.clk.candidate, growth := t.clk.growth }
       ∧ (s.clk.state ≠ .free → s.clk.state ≠ .holdover →
           t.clk.slew = 0 ∧ t.clk.prevMark = none ∧ t.clk.window = [] ∧ t.clk.candidate = none)
       ∧ (s.clk.state = .acquiring ∨ s.clk.state = .tracking ∨ s.clk.state = .locked →
           t.clk.state = (if 65535 ≤ s.clk.u then .free else .holdover)
             ∧ (s.clk.u < 65535 →
                 t.clk.growth = some { start := now s, length := s.settings.time.growthPeriod * 10000000 }))
       ∧ (s.clk.state = .unset → t.clk.state = .unset ∧ t.clk.stage = .free ∧ t.notices = s.notices)
       ∧ (s.clk.state = .free ∨ s.clk.state = .holdover → t = { s with clk := { s.clk with silence := none } })
       ∧ t = { s with clk := t.clk, shift := t.shift, notices := t.notices })
    ∧ (∀ (x : Interval) (s : State), s.supply.stopped = false → s.clk.state = .holdover → s.clk.growth = some x →
         x.length ≤ since s x.start →
         (s.clk.u + 1 < 65535 →
           exec .holdoverGrowth s = .next { s with clk := { s.clk with
             u := s.clk.u + 1, growth := some { start := now s, length := s.settings.time.growthPeriod * 10000000 } } })
           ∧ (65535 ≤ s.clk.u + 1 →
             ∃ t, exec .holdoverGrowth s = .next t ∧ t.clk.state = .free ∧ t.clk.u = 65535 ∧ t.clk.growth = none
               ∧ t.clk.time = s.clk.time ∧ t.clk.trim = s.clk.trim ∧ t.notices = (post .clockState s).notices
               ∧ t = { s with clk := t.clk, shift := t.shift, notices := t.notices }))
    ∧ (∀ (x : Interval) (p : Port) (s : State), working s = true → x.length ≤ since s x.start →
         (s.clk.secOut = some x → exec .secOutPulseEnd s = .next { s with clk := { s.clk with secOut := none } })
           ∧ (s.shift.bell = some x → exec .bellPulseEnd s = .next { s with shift := { s.shift with bell := none } })
           ∧ ((s.notices.get p).holdoff = some x →
               exec (.holdoffExpiry p) s = .next (s.withNotices p
                 { pending := (s.notices.get p).pending, holdoff := none,
                   attention := decide ((s.notices.get p).pending ≠ 0) })))

/-! ### The Mark Qualifier -/

/-- The glitch filter (R30): a change of level waits, dated at its own moment; a return sooner than 50 µs makes it a glitch, of which
nothing is left; one that has stood 50 µs is taken as a phase edge, dated at the change. For a pattern with nothing due before.

A rise from WAIT_LOW or WAIT_RISE starts a pattern, with the reading and the fraction of the change; a fall after 200 µs of the
first high, and a rise after 200 µs of the low, go on; a fall in WAIT_LOW is waited for. A phase that ends sooner, or a second
high before its 200 µs, is malformed: the pattern is discarded and counted, and the fault counter gains 1 (R31, R35), up to its
31. A suspended recogniser takes no phase edge.

A pattern not complete 2 ms after its start is discarded as malformed (R31); the addition that takes the fault counter past 31
sets FAULTED, suspends the recogniser and leaves the fibre unselected (R35, R38).

That the moves of the light come as an operand, and that a change is known to stand when 50 µs have passed, are the model's choice
(log entry 13). -/
def Obligations.PatternsAreFollowedAndDiscarded : Prop :=
  let quiet := fun (s : State) =>
    working s = true ∧ (∀ x, s.mq.pattern = some x → since s x.start < 20000)
      ∧ (s.mq.recogniser = .secondHigh → since s s.mq.phaseStart < 2000)
  (∀ (level : Level) (s : State),
     (s.pins.fibre = level → exec (.fibrePhaseEdge (.moves level)) s = .next s)
       ∧ (quiet s → s.pins.fibre ≠ level → s.mq.edge = none →
           exec (.fibrePhaseEdge (.moves level)) s = .next
             { s with
               pins := { s.pins with fibre := level }
               mq := { s.mq with
                 recogniser := if s.mq.recogniser = .waitLow ∧ level = .high then .waitRise else s.mq.recogniser
                 edge := some { reading := now s, fraction := s.clk.time.fraction, stepped := false } } })
       ∧ (∀ e, quiet s → s.pins.fibre ≠ level → s.mq.edge = some e → since s e.reading < 500 →
           exec (.fibrePhaseEdge (.moves level)) s = .next
             { s with
               pins := { s.pins with fibre := level }
               mq := { s.mq with
                 recogniser := if s.mq.recogniser = .waitLow ∧ level = .low then .waitRise else s.mq.recogniser
                 edge := none } })
       ∧ (working s = false → exec (.fibrePhaseEdge (.moves level)) s = .next { s with pins := { s.pins with fibre := level } })
       ∧ ((∀ e, s.mq.edge = some e → since s e.reading < 500) → exec (.fibrePhaseEdge .stands) s = .next s))
    ∧ (∀ (e : FibreEdge) (s : State), working s = true → s.mq.edge = some e → 500 ≤ since s e.reading →
         (∀ x, s.mq.pattern = some x → since s x.start < 20000) →
         let goes := fun (m : MarkQualifier) => exec (.fibrePhaseEdge .stands) s = .next { s with mq := { m with edge := none } }
         let long := 2000 ≤ elapsedBetween s.mq.phaseStart e.reading
         let breaks := fun (r : Recogniser) =>
           s.mq.faultCounter ≤ 30 →
             goes { s.mq with
               recogniser := r, pattern := none, faultCounter := s.mq.faultCounter + 1,
               totals := { s.mq.totals with malformed := satSucc 4294967295 s.mq.totals.malformed } }
         (s.pins.fibre = .high → s.mq.recogniser = .waitLow ∨ s.mq.recogniser = .waitRise →
           goes { s.mq with
             recogniser := .firstHigh, phaseStart := e.reading,
             pattern := some { start := e.reading, fraction := e.fraction, stepped := e.stepped } })
           ∧ (s.pins.fibre = .low → s.mq.recogniser = .waitLow → goes { s.mq with recogniser := .waitRise })
           ∧ (s.pins.fibre = .high → s.mq.recogniser = .low →
               (long → goes { s.mq with recogniser := .secondHigh, phaseStart := e.reading }) ∧ (¬long → breaks .waitLow))
           ∧ (s.pins.fibre = .low → s.mq.recogniser = .firstHigh →
               (long → goes { s.mq with recogniser := .low, phaseStart := e.reading }) ∧ (¬long → breaks .waitRise))
           ∧ (s.pins.fibre = .low → s.mq.recogniser = .secondHigh → ¬long → breaks .waitRise)
           ∧ (s.mq.recogniser = .suspended → goes s.mq))
    ∧ (∀ (x : Pattern) (s : State), working s = true → s.mq.pattern = some x → 20000 ≤ since s x.start → s.mq.edge = none →
         (s.mq.recogniser = .firstHigh ∨ s.mq.recogniser = .low
           ∨ (s.mq.recogniser = .secondHigh ∧ 18000 < elapsedBetween x.start s.mq.phaseStart)) →
         ∃ t, exec .patternTimeout s = .next t
           ∧ t.mq.pattern = none ∧ t.mq.totals = { s.mq.totals with malformed := satSucc 4294967295 s.mq.totals.malformed }
           ∧ (s.mq.faultCounter ≤ 30 →
               t.mq.faultCounter = s.mq.faultCounter + 1 ∧ t.mq.faulted = s.mq.faulted ∧ t.mq.selected = s.mq.selected
                 ∧ t.mq.recogniser = (if s.pins.fibre = .low then .waitRise else .waitLow) ∧ t.clk = s.clk)
           ∧ (31 ≤ s.mq.faultCounter →
               t.mq.faulted = true ∧ t.mq.faultCounter = 32 ∧ t.mq.recogniser = .suspended ∧ t.mq.streak = []
                 ∧ t.mq.selected = (if s.settings.line.lineMarks = true ∧ s.mq.peerPresence.isSome then .line else .noSource))
           ∧ (t.pins = s.pins ∧ t.settings = s.settings ∧ t.log = s.log ∧ t.bursts = s.bursts ∧ t.units = s.units
               ∧ t.inputs = s.inputs ∧ t.store = s.store ∧ t.tl = s.tl ∧ t.supply = s.supply ∧ t.ports = s.ports))

/-- A pattern whose second high has lasted 200 µs, within 2 ms of its start, is a fibre mark (R30, R32). With no reference, or a
reference more than 8 s and W before it, it is an acquisition mark; within W of 1 to 8 whole seconds it is in window. Either is
accepted: it becomes the reference, it is counted, the fault counter falls by 1, the streak is emptied, the presence timer
restarts, the fibre is selected (R33, R35, R38), and the Time Base takes it with the fraction of the pattern's start, source
FIBRE and its n: no n for an acquisition mark, or for the first mark after a change of source, which is reported before (R34, R39);
the line reference is cleared when the source left is LINE (R39).

A fibre mark that is neither is a stray (R32, R33): one that lies a whole number of seconds, within 20 tbc, after each of two of
the streak is accepted as an acquisition mark; one that so follows a streak of one joins it; any other begins a new streak.
A stray not accepted is counted and adds 1 to the fault counter; the addition past 31 sets FAULTED (R35).

A mark that a step at another mark overtook is discarded (R34).

That the two timers run from the moment of acceptance is the model's choice (log entry 20). -/
def Obligations.ACompletePatternIsAMarkOrAStray : Prop :=
  let ready := fun (x : Pattern) (s : State) =>
    working s = true ∧ s.mq.pattern = some x ∧ s.mq.recogniser = .secondHigh ∧ 2000 ≤ since s s.mq.phaseStart
      ∧ elapsedBetween x.start s.mq.phaseStart + 2000 ≤ 20000
      ∧ (∀ e, s.mq.edge = some e → 2000 ≤ elapsedBetween s.mq.phaseStart e.reading)
      ∧ s.mq.faulted = false ∧ s.settings.time.markWindow ≤ 50000
  let takes := fun (x : Pattern) (n : Option Nat) (s : State) =>
    ∃ t, exec .patternComplete s = .next t
      ∧ t.mq.fibreRef = some x.start ∧ t.mq.pattern = none ∧ t.mq.recogniser = .waitLow
      ∧ t.mq.faultCounter = s.mq.faultCounter - 1 ∧ t.mq.streak = [] ∧ t.mq.fibrePresence = some (now s)
      ∧ t.mq.selected = .fibre ∧ t.mq.firstAfterChange = false
      ∧ t.mq.lineRef = (if s.mq.selected = .line then none else s.mq.lineRef)
      ∧ t.mq.totals = { s.mq.totals with fibreAccepted := satSucc 4294967295 s.mq.totals.fibreAccepted }
      ∧ (s.mq.selected = .fibre → t = { processMark
          { fraction := x.fraction, source := .fibre, n := if s.mq.firstAfterChange then none else n } s with mq := t.mq })
      ∧ (s.mq.selected ≠ .fibre →
          t = { processMark { fraction := x.fraction, source := .fibre, n := none } (sourceChanged s) with mq := t.mq })
  (∀ (x : Pattern) (s : State), ready x s → x.stepped = false →
     (s.mq.fibreRef = none ∨ (∃ r, s.mq.fibreRef = some r ∧ 80000000 + s.settings.time.markWindow < elapsedBetween r x.start) →
         takes x none s)
       ∧ (∀ r n, s.mq.fibreRef = some r → 1 ≤ n → n ≤ 8 →
           elapsedBetween r x.start ≤ n * 10000000 + s.settings.time.markWindow →
           n * 10000000 ≤ elapsedBetween r x.start + s.settings.time.markWindow → takes x (some n) s))
    ∧ (∀ (x : Pattern) (r : Reading) (s : State), ready x s → x.stepped = false → s.mq.fibreRef = some r →
         elapsedBetween r x.start ≤ 80000000 + s.settings.time.markWindow →
         (∀ n, 1 ≤ n → n ≤ 8 → elapsedBetween r x.start + s.settings.time.markWindow < n * 10000000
           ∨ n * 10000000 + s.settings.time.markWindow < elapsedBetween r x.start) →
         let follows := fun (y : Reading) =>
           ∃ k, 1 ≤ k ∧ k ≤ 8 ∧ elapsedBetween y x.start ≤ k * 10000000 + 20 ∧ k * 10000000 ≤ elapsedBetween y x.start + 20
         let strays := fun (streak : List Reading) =>
           (s.mq.faultCounter ≤ 30 →
             exec .patternComplete s = .next { s with mq := { s.mq with
               recogniser := .waitLow, pattern := none, streak := streak, faultCounter := s.mq.faultCounter + 1,
               totals := { s.mq.totals with fibreStrays := satSucc 4294967295 s.mq.totals.fibreStrays } } })
             ∧ (31 ≤ s.mq.faultCounter → ∃ t, exec .patternComplete s = .next t
                 ∧ t.mq.faulted = true ∧ t.mq.faultCounter = 32 ∧ t.mq.recogniser = .suspended ∧ t.mq.streak = []
                 ∧ t.mq.totals = { s.mq.totals with fibreStrays := satSucc 4294967295 s.mq.totals.fibreStrays })
         (s.mq.streak = [] → strays [x.start])
           ∧ (∀ y, s.mq.streak = [y] → (follows y → strays [y, x.start]) ∧ (¬follows y → strays [x.start]))
           ∧ (∀ y z, s.mq.streak = [y, z] →
               (follows y ∧ follows z → takes x none s) ∧ (¬(follows y ∧ follows z) → strays [x.start])))
    ∧ (∀ (x : Pattern) (s : State), ready x s → x.stepped = true →
         exec .patternComplete s = .next { s with mq := { s.mq with recogniser := .waitLow, pattern := none } })

/-! ### The time line -/

/-- The level of TIME_LINE is low when another party pulls it down, or the part does: in its start bit, and in each bit of its
telegram that is 0, for the length of the bit period (R45, R46, R51).

It falls and rises (R45, R47): a low line has no line-free count; on an idle line a fall is a start edge, whose capture holds the
elapsed reading, station time, the epoch and the grade of the edge; a rise begins the count at 0. A move of the other parties
under the part's own pull moves no level.

A start bit that reads high at its middle, 50 µs after the start edge, is broken: it is counted and the receiver is idle
again (R47).

What time alone does (R45, R47, R48, R51), at a period counted: the line-free count follows the
level the part leaves; the start bit that reads low at its middle is followed by the data; each bit of a telegram, heard or sent,
is read as the line's level at the middle of its period; AWAIT_HIGH ends with a high line.

The model's choices: that an empty queue counts a period (log entry 1); that START_EDGE and TIME_LINE_RISE are the other parties'
moves, that one under the part's own pull moves no level, and that a bit is read in the period of its middle (log entry 21). -/
def Obligations.LineEdgesAndStartBits : Prop :=
  (∀ s : State, lineLevel s = .low ↔ s.pins.timeLine = .low
     ∨ (working s = true ∧ s.tl.sendState = .sending ∧ ∃ bits c, s.tl.outgoing = some bits ∧ s.tl.capture = some c
         ∧ (since s c.reading / 1000 = 0
           ∨ (since s c.reading / 1000 ≤ 56 ∧ bits.getMsbD (since s c.reading / 1000 - 1) = false))))
    ∧ (∀ s : State, working s = true →
         (s.pins.timeLine = .high →
           let t : State := { s with pins := { s.pins with timeLine := .low } }
           let u : State := { t with tl := { s.tl with freeCount := 0, highSince := none } }
           (lineLevel s = .high → s.tl.receiver = .idle ∨ s.tl.receiver = .awaitHigh →
             exec .startEdge s = .next { u with tl := { u.tl with
               receiver := .start, readBits := [],
               capture := some
                 { reading := now s, time := s.clk.time, epoch := s.clk.epoch, grade := gradeNow s, contested := false,
                   stepped := false } } })
             ∧ (lineLevel s = .high → s.tl.receiver ≠ .idle → s.tl.receiver ≠ .awaitHigh → exec .startEdge s = .next u)
             ∧ (lineLevel s = .low → s.tl.receiver = .own → exec .startEdge s = .next t))
           ∧ (s.pins.timeLine = .low →
               let t : State := { s with pins := { s.pins with timeLine := .high } }
               exec .startEdge s = .next s
                 ∧ (lineLevel t = .high → exec .timeLineRise s = .next
                     { t with tl := { s.tl with
                       freeCount := 0, highSince := some (now s),
                       receiver := if s.tl.receiver = .awaitHigh then .idle else s.tl.receiver } })
                 ∧ (lineLevel t = .low → exec .timeLineRise s = .next t)))
    ∧ (∀ (c : StartCapture) (s : State), working s = true → s.tl.receiver = .start → s.tl.capture = some c →
         (500 ≤ since s c.reading → lineLevel s = .high →
           exec .brokenStartBit s = .next { s with tl := { s.tl with
             receiver := .idle, capture := none, counts := { s.tl.counts with broken := satSucc 65535 s.tl.counts.broken } } })
           ∧ (since s c.reading < 500 ∨ lineLevel s = .low → exec .brokenStartBit s = .next s))
    ∧ (∀ s : State, s.pending = [] → working s = true → LineInv s →
         ∃ t, step s = .next t
           ∧ (lineLevel t = .low → t.tl.freeCount = 0 ∧ t.tl.highSince = none)
           ∧ (lineLevel s = .low → lineLevel t = .high → t.tl.freeCount = 0 ∧ t.tl.highSince = some (now t))
           ∧ (∀ r, lineLevel s = .high → lineLevel t = .high → s.tl.highSince = some r →
               t.tl.highSince = some r ∧ t.tl.freeCount = max s.tl.freeCount (min 12 (since t r / 1000)))
           ∧ (∀ c, s.tl.receiver = .start → s.tl.capture = some c →
               t.tl.receiver = (if 500 ≤ since t c.reading ∧ lineLevel t = .low then .data else .start))
           ∧ (s.tl.receiver = .awaitHigh → t.tl.receiver = (if lineLevel t = .high then .idle else .awaitHigh))
           ∧ (∀ c, s.tl.receiver = .data ∨ s.tl.receiver = .own → s.tl.capture = some c →
               let k := s.tl.readBits.length + 1
               t.tl.receiver = s.tl.receiver
                 ∧ t.tl.readBits = (if k ≤ 56 ∧ k * 1000 + 500 ≤ since t c.reading
                     then s.tl.readBits ++ [decide (lineLevel t = .high)] else s.tl.readBits)))

/-- A telegram judged at the end of its 57 bit periods from the 56 bits read (R46, R48, R49): the receiver awaits a high line and the
capture is gone. It is valid when all bits were read, its grade is A to E, its seven bytes sum to 0 and its second is below
86,400; otherwise it counts as broken and nothing else moves. Other bits than those read judge nothing.

A valid telegram is recorded, counted and restarts the silence timer; the own id posts LINE_CLASH, another sets the last
other-sender reading (R49). At grade A or B its sender is the last well-graded peer, and with line marks on the peer presence
timer restarts; where LINE is then selected the start edge is a line mark (R37): its instant and fraction are the edge's less the
compensation; it is discarded when a step at another mark overtook it, else handed by the window W, or counted as a stray (R32,
R34, R39).

The cross-check at own grade A or B with no step since (R58): the edge's compensated offset, or a contested one's date alone,
against the limit; a disagreement is counted, and posted once in 60 s. A line date is offered to the slot by both grades, one
second on when the next boundary lies half a second or more after the edge (R20, R21, R59); the slot is empty when the mark's
own step forward crossed a boundary, which applied its date (R22). A contested telegram returns a STANDBY to WAITING (R49, R55).

The model's choices: the order of these effects, and the fraction read after a step (log entry 18); the offset's magnitude against
the limit (19); the timers run from the telegram's taking (20); other bits judge nothing (21); when a line mark is overtaken (29);
at grade C the line date compared with the second counted on, the slot left out (39). -/
def Obligations.ATelegramIsJudgedAtItsEnd : Prop :=
  ∀ (c : StartCapture) (s : State), working s = true → s.tl.receiver = .data → s.tl.capture = some c →
    57000 ≤ since s c.reading → SourceInv s → s.settings.time.markWindow ≤ 50000 → s.settings.line.delay ≤ 2000 →
    let field := fun (from_ width : Nat) => numberOfBits ((s.tl.readBits.drop from_).take width)
    let valid := s.tl.readBits.length = 56 ∧ (1 ≤ field 3 3 ∧ field 3 3 ≤ 5)
      ∧ ((List.range 7).map fun k => field (8 * k) 8).sum % 256 = 0 ∧ field 24 24 < 86400
    let tl := { s.tl with receiver := .awaitHigh, capture := none, readBits := [] }
    (¬valid → exec (.telegramJudged s.tl.readBits) s = .next
      { s with tl := { tl with counts := { s.tl.counts with broken := satSucc 65535 s.tl.counts.broken } } })
      ∧ (∀ bits, bits ≠ s.tl.readBits → exec (.telegramJudged bits) s = .next s)
      ∧ (valid → ∃ (x : Telegram) (t : State), exec (.telegramJudged s.tl.readBits) s = .next t
        ∧ (x.id.toNat = field 0 3 ∧ x.grade.rank = field 3 3 ∧ x.epochBits.toNat = field 6 2 ∧ x.day.toNat = field 8 16
            ∧ x.second = field 24 24)
        ∧ (t.tl.receiver = .awaitHigh ∧ t.tl.capture = none ∧ t.tl.sendState = s.tl.sendState)
        ∧ (t.tl.counts.valid = satSucc 65535 s.tl.counts.valid ∧ t.tl.silence = now s
            ∧ t.tl.lastValid = some
                { id := x.id, grade := x.grade, epochBits := x.epochBits, day := x.day, second := x.second,
                  reading := c.reading, contested := c.contested })
        ∧ (t.settings = s.settings ∧ t.inputs = s.inputs ∧ t.units = s.units ∧ t.pins = s.pins ∧ now t = now s)
        ∧ (let posted := fun (k : NoticeKind) => ∀ p, hasKind (s.settings.notice.get p).enable k = true →
             hasKind (t.notices.get p).pending k = true
           let own := x.id = s.settings.line.ownId
           (own → posted .lineClash) ∧ t.tl.lastOther = (if own then s.tl.lastOther else some (now s))
             ∧ (c.contested = true → s.settings.line.role = .standby → t.tl.phase = .waiting)
             ∧ (let at_ := c.time.retreat (s.settings.line.delay * 10)
                let near := if at_.fraction < 5000000 then (at_.day, at_.second) else nextSecond at_.day at_.second
                let offset : Int := if at_.fraction < 5000000 then at_.fraction else (at_.fraction : Int) - 10000000
                let differs := (c.grade = .a ∨ c.grade = .b) ∧ t.clk.epoch = c.epoch
                  ∧ ((c.contested = false ∧ s.settings.line.crossLimit < (Int.tdiv offset 10).natAbs)
                    ∨ near ≠ (x.day, x.second))
                let spaced := s.tl.lastDisagree = none
                  ∨ ∃ r, s.tl.lastDisagree = some r ∧ 600000000 ≤ since s r
                (differs → t.tl.counts.disagreements = satSucc 65535 s.tl.counts.disagreements)
                  ∧ (¬differs → t.tl.counts.disagreements = s.tl.counts.disagreements)
                  ∧ (differs ∧ spaced → t.tl.lastDisagree = some (now s) ∧ posted .lineDisagree)
                  ∧ (¬(differs ∧ spaced) → t.tl.lastDisagree = s.tl.lastDisagree))
             ∧ (let date := if 5000000 ≤ since s c.reading + (10000000 - t.clk.time.fraction)
                  then nextSecond x.day x.second else (x.day, x.second)
                let offers := (c.grade = .c ∧ x.grade.rank ≤ 2 ∧ date ≠ nextSecond t.clk.time.day t.clk.time.second)
                  ∨ ((c.grade = .d ∨ c.grade = .e) ∧ x.grade.rank ≤ 3)
                let line : Setters := { a := false, b := false, c := false, line := true }
                let f := (c.time.fraction + 10000000 - s.settings.line.delay * 10) % 10000000
                let crossed := t.clk.epoch ≠ s.clk.epoch ∧ 5000000 ≤ f ∧ f ≤ s.clk.time.fraction
                let held := if crossed then none else s.clk.slot
                (held = none →
                  (offers → t.clk.slot = some { day := date.1, second := date.2, setters := line })
                    ∧ (¬offers → t.clk.slot = none))
                  ∧ (∀ d, held = some d →
                      let same := d.day = date.1 ∧ d.second = date.2
                      (¬offers → t.clk.slot = some d)
                        ∧ (offers → same → t.clk.slot = some { d with setters := { d.setters with line := true } })
                        ∧ (offers → ¬same → d.setters = line →
                            t.clk.slot = some { day := date.1, second := date.2, setters := line })
                        ∧ (offers → ¬same → d.setters ≠ line → t.clk.slot = none
                            ∧ ∀ p, d.setters.has p = true → hasKind (s.settings.notice.get p).enable .dateConflict = true →
                              hasKind (t.notices.get p).pending .dateConflict = true))))
        ∧ (3 ≤ x.grade.rank → t.mq = s.mq ∧ t.clk = { s.clk with slot := t.clk.slot })
        ∧ (x.grade.rank ≤ 2 →
            let peer : MarkQualifier := { s.mq with wellGraded := some { id := x.id, grade := x.grade } }
            let heard : MarkQualifier := { peer with peerPresence := some (now s) }
            let quiet := fun (m : MarkQualifier) => t.mq = m ∧ t.clk = { s.clk with slot := t.clk.slot }
            (s.settings.line.lineMarks = false → quiet peer)
              ∧ (s.settings.line.lineMarks = true → s.mq.selected = .fibre → quiet heard)
              ∧ (s.settings.line.lineMarks = true → s.mq.selected ≠ .fibre →
                let delay := s.settings.line.delay * 10
                let instant := (c.reading + 42949672960000000 - delay) % 42949672960000000
                let fraction := (c.time.fraction + 10000000 - delay) % 10000000
                let w := s.settings.time.markWindow
                let overtaken := c.stepped = true ∨ ∃ r, s.mq.lastStep = some r ∧ since s r < since s instant
                let first := decide (s.mq.selected = .noSource) || s.mq.firstAfterChange
                let base := if s.mq.selected = .line then s else sourceChanged s
                let takes := fun (n : Option Nat) =>
                  t.mq.selected = .line ∧ t.mq.lineRef = some instant ∧ t.mq.firstAfterChange = false
                    ∧ t.mq.totals = { s.mq.totals with lineAccepted := satSucc 4294967295 s.mq.totals.lineAccepted }
                    ∧ t.clk = { (processMark { fraction := fraction, source := .line, n := if first then none else n } base).clk with
                        slot := t.clk.slot }
                let left := fun (totals : MarkTotals) =>
                  t.mq = { heard with selected := .line, firstAfterChange := first, totals := totals }
                    ∧ t.clk = { base.clk with slot := t.clk.slot }
                let window := fun (r : Reading) (n : Nat) =>
                  elapsedBetween r instant ≤ n * 10000000 + w ∧ n * 10000000 ≤ elapsedBetween r instant + w
                (overtaken → left s.mq.totals)
                  ∧ (¬overtaken → s.mq.lineRef = none → takes none)
                  ∧ (∀ r, ¬overtaken → s.mq.lineRef = some r →
                      (80000000 + w < elapsedBetween r instant → takes none)
                        ∧ (∀ n, 1 ≤ n → n ≤ 8 → window r n → takes (some n))
                        ∧ (elapsedBetween r instant ≤ 80000000 + w → (∀ n, 1 ≤ n → n ≤ 8 → ¬window r n) →
                            left { s.mq.totals with
                              lineStrays := satSucc 4294967295 s.mq.totals.lineStrays })))))

/-- A telegram that the part sends is one that it judges valid, with the fields it sent: id, grade, the epoch's two low bits, day and
second of day (R46, R48). -/
def Obligations.ATelegramSentIsAValidTelegram : Prop :=
  ∀ (id : BitVec 3) (g : Grade) (epoch : BitVec 8) (day : BitVec 16) (second : Nat), second < 86400 →
    judgeTelegram (bitList (telegramBits id g epoch day second)) = some
      { id := id, grade := g, epochBits := epoch.setWidth 2, day := day, second := second }

/-- The ends of a telegram going out (R51 to R53, R55): sent whole after 57 bit periods with every bit read back as driven;
arbitration lost where a bit of byte 0 drove a 1 and a 0 is read, an id clash where one of bytes 1 to 6 did, after either of
which the part goes on receiving with the bits read, and a sending STANDBY waits; a send fault from the middle of a bit in
which the part pulls the line low, when a 1 is read. What the part releases is then the level the other parties leave; where
the line rises with it, its line-free count begins at 0. An end whose condition does not hold does nothing.

That SEND_FAULT comes from outside, and that the count after it begins when it is taken, are the model's choice (log entries 21
and 33). -/
def Obligations.OutgoingTelegramsEnd : Prop :=
  ∀ (bits : BitVec 56) (c : StartCapture) (s : State), working s = true → s.tl.sendState = .sending →
    s.tl.outgoing = some bits → s.tl.capture = some c →
    let n := s.tl.readBits.length
    let differs := s.tl.readBits.getLast? = some false ∧ bits.getMsbD (n - 1) = true
    let k := since s c.reading / 1000
    let pulls := k = 0 ∨ (k ≤ 56 ∧ bits.getMsbD (k - 1) = false)
    let rises := pulls ∧ s.pins.timeLine = .high
    let phase : Phase := if s.settings.line.role = .standby then .waiting else s.tl.phase
    let freed : TimeLine :=
      { s.tl with
        sendState := .idle, outgoing := none
        freeCount := if rises then 0 else s.tl.freeCount, highSince := if rises then some (now s) else s.tl.highSince }
    let on : TimeLine := { freed with receiver := .data, capture := some { c with contested := true }, phase := phase }
    let mid := pulls ∧ 500 ≤ since s c.reading % 1000
    (57000 ≤ since s c.reading → ¬differs →
      exec .telegramSent s = .next { s with tl := { s.tl with
        sendState := .idle, receiver := .awaitHigh, capture := none, outgoing := none,
        counts := { s.tl.counts with sent := satSucc 65535 s.tl.counts.sent } } })
      ∧ (since s c.reading < 57000 ∨ differs → exec .telegramSent s = .next s)
      ∧ (differs → n ≤ 8 → exec .arbitrationLoss s = .next { s with tl := { on with
          counts := { s.tl.counts with arbitrationLosses := satSucc 65535 s.tl.counts.arbitrationLosses } } })
      ∧ (¬differs ∨ 8 < n → exec .arbitrationLoss s = .next s)
      ∧ (differs → 8 < n → exec .idClash s = .next
          { s with
            notices := (post .lineClash s).notices
            tl := { on with counts := { s.tl.counts with idClashes := satSucc 65535 s.tl.counts.idClashes } } })
      ∧ (¬differs ∨ n ≤ 8 → exec .idClash s = .next s)
      ∧ (mid → exec .sendFault s = .next { s with tl := { freed with
          receiver := .awaitHigh, capture := none, phase := phase,
          counts := { s.tl.counts with sendFaults := satSucc 65535 s.tl.counts.sendFaults } } })
      ∧ (¬mid → exec .sendFault s = .next s)

/-! ### Trip inputs, the log and the bursts -/

/-- The edges of a trip line (R65 to R68): the line takes its new level; an IDLE input captures a leading edge with the stamp, the
reading and the Tq in force, and qualifies; an ACTIVE one captures a trailing edge and releases; a leading edge in RELEASING is a
bounce; a trailing edge in QUALIFYING is a glitch, which adds 1 to the chatter score. A BLOCKED or DISABLED input, and any in
RETAIN, takes only the level.

A glitch that brings the score to 32 blocks the input (R71, R72): its capture is gone, one CHATTER_BLOCK entry is made with the
present stamp and shift, and CHATTER_BLOCK is posted. -/
def Obligations.TripEdgesMoveTheInput : Prop :=
  ∀ (i : Fin 16) (s : State),
    let x := s.inputs.get i
    let capture : Capture := { stamp := stampNow s, reading := now s, tq := (s.settings.inputs.inputs.get i).tq }
    let moved := fun (active : Bool) => ({ s with pins := { s.pins with
      tripIn := setBit s.pins.tripIn i.val (active != (s.settings.inputs.inputs.get i).activeLow) } } : State)
    (inputActive s i = false →
      let goes := fun (t : State) => exec (.tripLeadingEdge i) s = .next t
      (working s = true → x.state = .idle →
          goes ((moved true).withInput i { x with state := .qualifying, capture := some capture }))
        ∧ (working s = true → x.state = .releasing →
            goes ((moved true).withInput i { x with state := .active, capture := none }))
        ∧ (working s = false ∨ x.state = .blocked ∨ x.state = .disabled → goes (moved true)))
      ∧ (inputActive s i = true →
        let goes := fun (t : State) => exec (.tripTrailingEdge i) s = .next t
        (working s = true → x.state = .active →
            goes ((moved false).withInput i { x with state := .releasing, capture := some capture }))
          ∧ (working s = true → x.state = .qualifying → x.score < 31 →
              goes ((moved false).withInput i { x with state := .idle, capture := none, score := x.score + 1 }))
          ∧ (working s = true → x.state = .qualifying → 31 ≤ x.score → x.score ≤ 32 →
              let body : EntryBody := .chatterBlock i (s.settings.inputs.inputs.get i).unit
              ∃ t, goes t
                ∧ t.inputs = s.inputs.set i { x with state := .blocked, capture := none, score := 32 }
                ∧ t.log = (makeEntry body (stampNow s) s).log ∧ t.log.nextSeq = s.log.nextSeq + 1
                ∧ t.log.ring.getLast? = some
                    { seq := s.log.nextSeq, stamp := stampNow s, shift := s.shift.current.number, body := body }
                ∧ (∀ q, hasKind (s.settings.notice.get q).enable .chatterBlock = true →
                    hasKind (t.notices.get q).pending .chatterBlock = true)
                ∧ t.bursts = { s.bursts with records := t.bursts.records }
                ∧ t = { moved false with inputs := t.inputs, log := t.log, bursts := t.bursts, notices := t.notices })
          ∧ (working s = false ∨ x.state = .blocked ∨ x.state = .disabled → goes (moved false)))

/-- A qualified assert (R67, R70, R71, R84, R92 to R94, R162): one TRIP_ASSERT entry with the next sequence number, the captured
stamp, the current shift and the number of a burst that the table holds; the shift's assert count gains 1; a fast repeat adds 1
to the chatter score and a slow one takes 1 off; below 32 the input is ACTIVE, and its last assert reading is the edge's.

The Burst Table takes the assert (R92 to R95, R98 to R100, R103, R104, R122), in a table as its invariant has it. With a record
FORMING or OPEN it joins: the count, the units, the actions of the matched filters, the counted fault units and the last join
take it; in FORMING an earlier member is the first-out; an acknowledged OPEN record is reopened, and BURST_REOPENED posted to the
ports it reaches. With none it opens a burst, in a free place or that of the oldest ACKNOWLEDGED record, under the next number
that no record bears; with neither it joins the newest, flagged, and BURST is posted. A fault trip not yet counted for the record
is counted for a fitted unit, and its record requested. The hold count is the number of the records that hold. Epochs 128 apart
are a free value (log entry 9).

A qualified release ends in IDLE, and makes one TRIP_RELEASE entry when the input's setting logs releases (R68, R70). -/
def Obligations.QualifiedEdgesAreLogged : Prop :=
  (∀ (i : Fin 16) (c : Capture) (s : State), working s = true → (s.inputs.get i).state = .qualifying →
     (s.inputs.get i).capture = some c → c.tq * 1000 ≤ since s c.reading →
     let old := (s.inputs.get i).lastAssert
     let fast := ∃ r, old = some r ∧ elapsedBetween r c.reading < s.settings.inputs.chatter * 1000000
     let taken := takeAssert
       { input := i, unit := (s.settings.inputs.inputs.get i).unit, code := (s.settings.inputs.inputs.get i).code,
         stamp := c.stamp, seq := s.log.nextSeq, shift := s.shift.current.number } (removeOldest s)
     ∃ t, exec (.assertQualifies i) s = .next t
       ∧ (t.inputs.get i).lastAssert = some c.reading ∧ (t.inputs.get i).capture = none
       ∧ (fast → (t.inputs.get i).score = (if (s.inputs.get i).score < 32 then (s.inputs.get i).score + 1
           else (s.inputs.get i).score))
       ∧ (¬fast → (t.inputs.get i).score = (s.inputs.get i).score - 1)
       ∧ (∀ j, j ≠ i → t.inputs.get j = s.inputs.get j)
       ∧ t.shift.current = { s.shift.current with
           summary := t.shift.current.summary } ∧ t.shift.current.summary.asserts = satSucc 4294967295
             s.shift.current.summary.asserts
       ∧ ((t.inputs.get i).score < 32 →
           (t.inputs.get i).state = .active ∧ t.log.nextSeq = s.log.nextSeq + 1
             ∧ t.bursts = taken.2.bursts ∧ t.notices = taken.2.notices
             ∧ ∃ b, t.log.ring.getLast? = some
                 { seq := s.log.nextSeq, stamp := c.stamp, shift := s.shift.current.number,
                   body := .tripAssert i (s.settings.inputs.inputs.get i).unit (s.settings.inputs.inputs.get i).code b false }
               ∧ b = taken.1 ∧ ∃ r ∈ t.bursts.records, r.number = b)
       ∧ (32 ≤ (t.inputs.get i).score →
           (t.inputs.get i).state = .blocked ∧ t.log.nextSeq = s.log.nextSeq + 2
             ∧ t.log.ring.getLast?.map (fun e => e.body)
                 = some (.chatterBlock i (s.settings.inputs.inputs.get i).unit)
             ∧ t.bursts = { taken.2.bursts with records := t.bursts.records })
       ∧ (t.units = taken.2.units ∧ t.store = taken.2.store ∧ t.shift.holdCount = taken.2.shift.holdCount)
       ∧ t.clk = s.clk ∧ t.mq = s.mq ∧ t.tl = s.tl ∧ t.settings = s.settings ∧ t.pins = s.pins ∧ t.supply = s.supply)
    ∧ (∀ (a : Assert) (s : State), working s = true → BurstInv s → QueueSafe s →
         let has := fun (x : Actions → Bool) => s.settings.inputs.filters.cells.any fun f =>
           decide (a.code &&& f.mask = f.code &&& f.mask) && f.units.getLsbD a.unit.val && x f.actions
         let trips := has (fun x => x.faultTrip)
         let acts : Actions :=
           { faultTrip := trips, holdHandover := has (fun x => x.holdHandover), notifyAll := has (fun x => x.notifyAll) }
         let bit := BitVec.ofNat 9 (2 ^ a.unit.val)
         let member : FirstOut := { input := a.input, stamp := a.stamp.stamp, epoch := a.stamp.epoch, seq := a.seq }
         let grown := fun (c : BitVec 8) =>
           if trips = true ∧ a.unit.val < 8 then c ||| BitVec.ofNat 8 (2 ^ a.unit.val) else c
         let number := (takeAssert a s).1
         let t := (takeAssert a s).2
         let joined := fun (r : BurstRecord) =>
           { r with asserts := satSucc 4294967295 r.asserts, units := r.units ||| bit, counted := grown r.counted,
                    actions := { faultTrip := r.actions.faultTrip || acts.faultTrip,
                                 holdHandover := r.actions.holdHandover || acts.holdHandover,
                                 notifyAll := r.actions.notifyAll || acts.notifyAll } }
         let posted := fun (k : NoticeKind) (r : BurstRecord) => t.notices = (postWhere (fun q => (joined r).actions.notifyAll
           || decide ((joined r).units &&& (s.settings.notice.get q).interest ≠ 0)) k s).notices
         let fault := fun (counted : BitVec 8) =>
           let counts := fun (u : Fin 8) =>
             trips = true ∧ a.unit.val = u.val ∧ counted.getLsbD u.val = false ∧ isFitted s u = true
           (∀ u, counts u →
             let x := s.units.get u
             t.units = s.units.set u { x with
                 counts := { x.counts with faults := satSucc 4294967295 x.counts.faults }
                 deltas := if x.counts.faults < 4294967295 then { x.deltas with counts := { x.deltas.counts with
                   faults := satSucc 4294967295 x.deltas.counts.faults } } else x.deltas }
               ∧ t.store = (request (.unit u) { s with units := t.units }).store
               ∧ t.shift.current.summary.faults = satSucc 4294967295 s.shift.current.summary.faults)
             ∧ ((∀ u, ¬counts u) → t.units = s.units ∧ t.store = s.store
                 ∧ t.shift.current.summary.faults = s.shift.current.summary.faults)
         let bursts := t.shift.current.summary.bursts
         (∀ r ∈ s.bursts.records, r.state ≠ .closed →
           let reopens := r.state = .opened ∧ r.ack ≠ none
           let d := (r.firstOut.epoch - member.epoch).toNat
           let ahead := stampDifference r.firstOut.stamp member.stamp
           let earlier := (1 ≤ d ∧ d ≤ 127)
             ∨ (d = 0 ∧ (0 < ahead ∨ (ahead = 0 ∧ member.input.val < r.firstOut.input.val)))
           (∃ first, t.bursts.records = s.bursts.records.map (fun x => if x.number = r.number then
                 { joined r with lastJoin := now s, firstOut := first,
                                 ack := if r.state = .opened then none else r.ack } else x)
               ∧ (r.state = .forming → (earlier → first = member) ∧ (¬earlier → d ≠ 128 → first = r.firstOut))
               ∧ (r.state ≠ .forming → first = r.firstOut) ∧ (first = member ∨ first = r.firstOut))
             ∧ number = r.number ∧ t.bursts.openRef = s.bursts.openRef ∧ t.bursts.nextNumber = s.bursts.nextNumber
             ∧ (reopens → posted .burstReopened r) ∧ (¬reopens → t.notices = s.notices)
             ∧ bursts = s.shift.current.summary.bursts ∧ fault r.counted)
           ∧ ((∀ r ∈ s.bursts.records, r.state = .closed) →
               let room := s.bursts.records.length < 32
               let spare := fun (r : BurstRecord) => r.ack ≠ none
               (room ∨ (∃ r ∈ s.bursts.records, spare r) →
                 ∃ kept, (room → kept = s.bursts.records)
                   ∧ (¬room → ∃ before r after, s.bursts.records = before ++ r :: after ∧ spare r
                       ∧ (∀ x ∈ before, ¬spare x) ∧ kept = before ++ after)
                   ∧ t.bursts.records = kept ++
                       [{ number := number, state := .forming, ack := none, shift := a.shift, opening := now s,
                          lastJoin := now s, firstOut := member, asserts := 1, units := bit, actions := acts,
                          counted := grown 0, lostEntries := false, overflowJoined := false }]
                   ∧ (∀ x ∈ kept, x.number ≠ number)
                   ∧ (∃ k ≤ 32, number = s.bursts.nextNumber + BitVec.ofNat 16 k
                       ∧ ∀ j < k, ∃ x ∈ kept, x.number = s.bursts.nextNumber + BitVec.ofNat 16 j)
                   ∧ t.bursts.openRef = some number ∧ t.bursts.nextNumber = number + 1 ∧ t.notices = s.notices
                   ∧ bursts = satSucc 4294967295 s.shift.current.summary.bursts ∧ fault 0)
                 ∧ (¬room → (∀ r ∈ s.bursts.records, ¬spare r) →
                     ∃ init r, s.bursts.records = init ++ [r] ∧ number = r.number
                       ∧ t.bursts.records = init ++ [{ joined r with overflowJoined := true }]
                       ∧ t.bursts.openRef = none ∧ t.bursts.nextNumber = s.bursts.nextNumber ∧ posted .burst r
                       ∧ bursts = s.shift.current.summary.bursts ∧ fault r.counted))
           ∧ t.bursts.holdCount = t.bursts.records.countP (fun r => r.ack.isNone && r.actions.holdHandover)
           ∧ t = { s with
               bursts := t.bursts, units := t.units, store := t.store, notices := t.notices
               shift := { s.shift with
                 holdCount := t.bursts.holdCount
                 current := { s.shift.current with
                   summary := { s.shift.current.summary with bursts := bursts, faults := t.shift.current.summary.faults } } } })
    ∧ (∀ (i : Fin 16) (c : Capture) (s : State), working s = true → (s.inputs.get i).state = .releasing →
         (s.inputs.get i).capture = some c → c.tq * 1000 ≤ since s c.reading →
         let x := s.settings.inputs.inputs.get i
         (x.logReleases = false →
           exec (.releaseQualifies i) s = .next (s.withInput i { s.inputs.get i with state := .idle, capture := none }))
           ∧ (x.logReleases = true →
             ∃ t, exec (.releaseQualifies i) s = .next t
               ∧ t.inputs = s.inputs.set i { s.inputs.get i with state := .idle, capture := none }
               ∧ t.log.nextSeq = s.log.nextSeq + 1
               ∧ t.log.ring.getLast? = some
                   { seq := s.log.nextSeq, stamp := c.stamp, shift := s.shift.current.number,
                     body := .tripRelease i x.unit x.code }
               ∧ t.clk = s.clk ∧ t.shift = s.shift ∧ t.units = s.units ∧ t.settings = s.settings ∧ t.store = s.store
               ∧ t.pins = s.pins ∧ t.bursts.openRef = s.bursts.openRef ∧ t.bursts.holdCount = s.bursts.holdCount))

/-- An entry joins the ring at its newest end (R84 to R86): it takes the next sequence number and the current shift; a ring of
1,024 loses its oldest entry; a cursor that stood at the removed entry moves to the new oldest, counts a missed entry, and
LOG_OVERRUN is posted to its port; every other cursor stands. A removed TRIP_ASSERT sets the lost-entries flag of the
UNACKNOWLEDGED record whose number it bears; no other entry moves a record. -/
def Obligations.AnEntryJoinsTheRing : Prop :=
  ∀ (body : EntryBody) (stamp : FullStamp) (s : State), LogInv s →
    let t := makeEntry body stamp s
    let e : LogEntry := { seq := s.log.nextSeq, stamp := stamp, shift := s.shift.current.number, body := body }
    t.log.nextSeq = s.log.nextSeq + 1
      ∧ (s.log.ring.length < 1024 → t.log.ring = s.log.ring ++ [e] ∧ t.log.cursors = s.log.cursors
          ∧ t.log.missed = s.log.missed ∧ t.notices = s.notices ∧ t.bursts = s.bursts)
      ∧ (∀ old rest, s.log.ring.length = 1024 → s.log.ring = old :: rest → t.log.ring = rest ++ [e]
          ∧ (∀ p, let n := s.notices.get p
              (s.log.cursors.get p = s.log.nextSeq - 1024 →
                t.log.cursors.get p = s.log.nextSeq - 1023 ∧ t.log.missed.get p = satSucc 65535 (s.log.missed.get p)
                  ∧ t.notices.get p =
                      (if working s = true ∧ hasKind (s.settings.notice.get p).enable .logOverrun = true then
                        { pending := n.pending ||| NoticeKind.logOverrun.bit, holdoff := n.holdoff,
                          attention := n.holdoff.isNone }
                       else n))
                ∧ (s.log.cursors.get p ≠ s.log.nextSeq - 1024 →
                    t.log.cursors.get p = s.log.cursors.get p ∧ t.log.missed.get p = s.log.missed.get p
                      ∧ t.notices.get p = n))
          ∧ (∀ i u code number resumed, old.body = .tripAssert i u code number resumed →
              t.bursts = { s.bursts with records := s.bursts.records.map fun r =>
                if r.number = number ∧ r.ack = none then { r with lostEntries := true } else r })
          ∧ ((∀ i u code number resumed, old.body ≠ .tripAssert i u code number resumed) → t.bursts = s.bursts))
      ∧ t.clk = s.clk ∧ t.inputs = s.inputs ∧ t.units = s.units ∧ t.store = s.store ∧ t.shift = s.shift
      ∧ t.settings = s.settings

/-- SET INPUT writes the six settings of an input, with Tq clamped into 1..255, and refuses a value that does not exist (R76). An
input disabled drops its capture; an input enabled begins from its level with score 0 and no last assert; a change of polarity
takes the state from the level, except in BLOCKED (R74, R75).

ALLOW INPUT ends a block with score 0: an inactive input is IDLE; an active one is ACTIVE, with one TRIP_ASSERT entry marked
resumed, at the stamp of the command, and the command's reading as its last assert. An input that is not BLOCKED is NOT_NOW; an
input above 15 is BAD_ARGUMENT (R73). -/
def Obligations.InputSettingsAndBlocks : Prop :=
  (∀ (p : Port) (args : List Byte) (s : State), Ready p s → args.length = 7 →
     let v := fun k => argNumber args k 1
     (16 ≤ v 0 ∨ 2 ≤ v 1 ∨ 2 ≤ v 2 ∨ 9 ≤ v 3 ∨ 64 ≤ v 4 ∨ 2 ≤ v 6 →
       exec (.setInput p args) s = .next (refusedWith p .badArgument s))
       ∧ (∀ (i : Fin 16) (u : UnitSel), i.val = v 0 → v 1 ≤ 1 → v 2 ≤ 1 → u.val = v 3 → v 4 < 64 → v 6 ≤ 1 →
         let old := s.settings.inputs.inputs.get i
         let new : InputSetting :=
           { enabled := decide (v 1 = 1), activeLow := decide (v 2 = 1), unit := u, code := BitVec.ofNat 6 (v 4),
             tq := min 255 (max 1 (v 5)), logReleases := decide (v 6 = 1) }
         let level : InputState := if activeUnder new (tripHigh s i) then .active else .idle
         let x := s.inputs.get i
         let y : TripInput :=
           if old.enabled = true ∧ new.enabled = false then { x with state := .disabled, capture := none }
           else if old.enabled = false ∧ new.enabled = true then
             { state := level, capture := none, score := 0, lastAssert := none }
           else if new.enabled = true ∧ old.activeLow ≠ new.activeLow ∧ x.state ≠ .blocked then
             { x with state := level, capture := none }
           else x
         exec (.setInput p args) s = .next (ofGroup p .inputs (rangeStatus 1 255 (v 5)) s
           { s with
             settings := { s.settings with inputs := { s.settings.inputs with
               inputs := s.settings.inputs.inputs.set i new } }
             inputs := s.inputs.set i y })))
    ∧ (∀ (p : Port) (args : List Byte) (s : State), Ready p s → args.length = 1 →
         (16 ≤ argNumber args 0 1 → exec (.allowInput p args) s = .next (refusedWith p .badArgument s))
           ∧ (∀ i : Fin 16, i.val = argNumber args 0 1 →
             ((s.inputs.get i).state ≠ .blocked → exec (.allowInput p args) s = .next (refusedWith p .notNow s))
               ∧ ((s.inputs.get i).state = .blocked → inputActive s i = false →
                   exec (.allowInput p args) s = .next (answered p .done .empty s
                     (s.withInput i { s.inputs.get i with state := .idle, score := 0 })))
               ∧ ((s.inputs.get i).state = .blocked → inputActive s i = true →
                   ∃ t, exec (.allowInput p args) s = .next (answered p .done .empty s t)
                     ∧ t.inputs = s.inputs.set i
                         { s.inputs.get i with state := .active, score := 0, lastAssert := some (now s) }
                     ∧ t.log.nextSeq = s.log.nextSeq + 1
                     ∧ (∃ b, t.log.ring.getLast? = some
                         { seq := s.log.nextSeq, stamp := stampNow s, shift := s.shift.current.number,
                           body := .tripAssert i (s.settings.inputs.inputs.get i).unit (s.settings.inputs.inputs.get i).code b
                             true })
                     ∧ t.clk = s.clk ∧ t.settings = s.settings ∧ t.pins = s.pins)))

/-- SET BURST GAP writes Tg, clamped into 20..5,000, and the OPEN burst whose gap has then run closes at once (R97, R108). For a
table whose open record is the one its reference names.

The first-out window of a FORMING record closes 30 ms after its opening (R96): the record is OPEN, and BURST is posted to the
ports it reaches; when the gap has run already it closes at once (R97). For a table whose numbers are distinct.

The gap of an OPEN record that has run closes it, with no notice (R97); a gap that has not run does nothing. -/
def Obligations.BurstWindowsAndGapsEnd : Prop :=
  (∀ (p : Port) (args : List Byte) (s : State), Ready p s → args.length = 2 → BurstInv s →
     let tg := min 5000 (max 20 (argNumber args 0 2))
     let closes := fun (r : BurstRecord) => r.state = .opened ∧ tg * 10000 ≤ since s r.lastJoin
     ∃ t, exec (.setBurstGap p args) s = .next (ofGroup p .inputs (rangeStatus 20 5000 (argNumber args 0 2)) s t)
       ∧ t = { s with
           settings := { s.settings with inputs := { s.settings.inputs with burstGap := tg } }
           bursts := { s.bursts with records := t.bursts.records, openRef := t.bursts.openRef } }
       ∧ (∀ r ∈ s.bursts.records, closes r → t.bursts.openRef = none)
       ∧ ((∀ r ∈ s.bursts.records, ¬closes r) → t.bursts.openRef = s.bursts.openRef)
       ∧ t.bursts.records = s.bursts.records.map fun r =>
           if r.state = .opened ∧ tg * 10000 ≤ since s r.lastJoin then { r with state := .closed } else r)
    ∧ (∀ (r : BurstRecord) (s : State), working s = true → BurstInv s → r ∈ s.bursts.records → r.state = .forming →
         300000 ≤ since s r.opening →
         let gone := s.settings.inputs.burstGap * 10000 ≤ since s r.lastJoin
         ∃ t, exec .firstOutWindowClose s = .next t
           ∧ t.bursts.records = s.bursts.records.map (fun x =>
               if x.number = r.number then { r with state := if s.settings.inputs.burstGap * 10000 ≤ since s r.lastJoin
                 then .closed else .opened } else x)
           ∧ (gone → t.bursts.openRef = none) ∧ (¬gone → t.bursts.openRef = some r.number)
           ∧ t.notices = (postWhere (fun q => r.actions.notifyAll
               || decide (r.units &&& (s.settings.notice.get q).interest ≠ 0)) .burst s).notices
           ∧ t = { s with bursts := { s.bursts with records := t.bursts.records, openRef := t.bursts.openRef },
                          notices := t.notices })
    ∧ (∀ (r : BurstRecord) (s : State), working s = true → BurstInv s → r ∈ s.bursts.records → r.state = .opened →
         (s.settings.inputs.burstGap * 10000 ≤ since s r.lastJoin →
           exec .burstGapExpiry s = .next { s with bursts := { s.bursts with
             records := s.bursts.records.map (fun x => if x.number = r.number then { r with state := .closed } else x),
             openRef := none } })
           ∧ (since s r.lastJoin < s.settings.inputs.burstGap * 10000 → exec .burstGapExpiry s = .next s))

/-- ACK BURST (R102): a number no record bears is NOT_FOUND; a FORMING record is NOT_NOW; a record acknowledged already is DONE
with nothing changed, its port kept; an unacknowledged one takes the port, with DONE and no other field changed, and the hold
count falls by 1 when the record has HOLD_HANDOVER.

But for a fall to 0 with an open handover released and accepted, when the completion is part of the command, nothing else moves;
that completion is stated in HandoverCommandsAreJudged. -/
def Obligations.AckBurstAcknowledges : Prop :=
  ∀ (p : Port) (args : List Byte) (s : State), Ready p s → args.length = 2 → BurstInv s →
    let n := argNumber args 0 2
    ((∀ r ∈ s.bursts.records, r.number.toNat ≠ n) → exec (.ackBurst p args) s = .next (refusedWith p .notFound s))
      ∧ (∀ r ∈ s.bursts.records, r.number.toNat = n →
        (r.state = .forming → exec (.ackBurst p args) s = .next (refusedWith p .notNow s))
          ∧ (r.state ≠ .forming → r.ack ≠ none → exec (.ackBurst p args) s = .next (answered p .done .empty s s))
          ∧ (r.state ≠ .forming → r.ack = none →
              let holds := s.bursts.holdCount - (if r.actions.holdHandover then 1 else 0)
              let u : State :=
                { s with
                  bursts := { s.bursts with
                    records := s.bursts.records.map fun x => if x.number = r.number then { r with ack := some p } else x
                    holdCount := holds }
                  shift := { s.shift with holdCount := holds } }
              ∃ t, exec (.ackBurst p args) s = .next (answered p .done .empty s t) ∧ t.bursts = u.bursts
                ∧ (r.actions.holdHandover = false ∨ holds ≠ 0
                    ∨ (∀ h, s.shift.handover = some h → h.released = none ∨ h.accepted = none) → t = u)))

/-! ### The units -/

/-- A code change of a fitted unit (R112 to R114): the lines take the code and no other unit's code moves; the mode the table gives
it is the raw mode; one that differs from the unit mode is a new candidate from now, and one that is the unit mode leaves no
candidate; the same raw mode moves nothing. An unfitted unit, and any in RETAIN, takes only the lines.

A candidate that has stood for Ts becomes the unit mode (R115), and the transition is counted (R121): a generating or a pumping
start from STARTING or STANDSTILL, an aborted start from STARTING to STANDSTILL or STOPPING; the delta count gains 1 when the
count does (R123), and the unit's record is requested, of a saturated count too. INVALID posts MODE_INVALID. No other unit
moves. -/
def Obligations.UnitCodesSettleIntoModes : Prop :=
  (∀ (u : Fin 8) (code : BitVec 4) (s : State), unitCode s u ≠ code →
     let m := s.settings.tally.modeTable.get code.toFin
     let x := s.units.get u
     ∃ t, exec (.unitCodeChange u code) s = .next t
       ∧ unitCode t u = code ∧ (∀ v, v ≠ u → unitCode t v = unitCode s v)
       ∧ (working s = false ∨ isFitted s u = false → t = { s with pins := t.pins })
       ∧ (working s = true → isFitted s u = true →
           (x.raw = some m → t = { s with pins := t.pins })
             ∧ (x.raw ≠ some m → x.mode = some m →
                 t = { s with pins := t.pins, units := s.units.set u { x with raw := some m, candidate := none } })
             ∧ (x.raw ≠ some m → x.mode ≠ some m →
                 t = { s with
                   pins := t.pins
                   units := s.units.set u { x with raw := some m, candidate := some m, settleStart := now s } }))
       ∧ t.pins = { s.pins with unitState := t.pins.unitState })
    ∧ (∀ (u : Fin 8) (m : Mode) (s : State), working s = true → isFitted s u = true → (s.units.get u).candidate = some m →
         s.settings.tally.settle * 1000000 ≤ since s (s.units.get u).settleStart →
         let x := s.units.get u
         let began := x.mode = some .starting ∨ x.mode = some .standstill
         let gains := fun (b : Prop) [Decidable b] (n : Nat) => if b then satSucc 4294967295 n else n
         let deltaGains := fun (b : Prop) [Decidable b] (n d : Nat) =>
           if b ∧ n < 4294967295 then satSucc 4294967295 d else d
         let ends := m = .standstill ∨ m = .stopping
         let counted := (m = .generating ∧ began) ∨ (m = .pumping ∧ began) ∨ (ends ∧ x.mode = some .starting)
         ∃ t, exec (.settleExpiry u) s = .next t
           ∧ (t.units.get u).mode = some m ∧ (t.units.get u).candidate = none ∧ (t.units.get u).modeEntry = some (now s)
           ∧ (t.units.get u).raw = x.raw ∧ (t.units.get u).tallies = x.tallies ∧ (t.units.get u).serviceDue = x.serviceDue
           ∧ (t.units.get u).counts =
               { genStarts := gains (m = .generating ∧ began) x.counts.genStarts,
                 pumpStarts := gains (m = .pumping ∧ began) x.counts.pumpStarts,
                 aborted := gains ((m = .standstill ∨ m = .stopping) ∧ x.mode = some .starting) x.counts.aborted,
                 faults := x.counts.faults }
           ∧ (t.units.get u).deltas = { x.deltas with counts :=
               { genStarts := deltaGains (m = .generating ∧ began) x.counts.genStarts x.deltas.counts.genStarts,
                 pumpStarts := deltaGains (m = .pumping ∧ began) x.counts.pumpStarts x.deltas.counts.pumpStarts,
                 aborted := deltaGains ((m = .standstill ∨ m = .stopping) ∧ x.mode = some .starting) x.counts.aborted
                   x.deltas.counts.aborted,
                 faults := x.deltas.counts.faults } }
           ∧ (counted → t.store = (request (.unit u) { s with units := t.units }).store) ∧ (¬counted → t.store = s.store)
           ∧ (QueueSafe s → t.ports = s.ports)
           ∧ (∀ v, v ≠ u → t.units.get v = s.units.get v)
           ∧ (m = .invalid → t.notices = (post .modeInvalid s).notices)
           ∧ (m ≠ .invalid → t.notices = s.notices)
           ∧ t = { s with units := t.units, store := t.store, notices := t.notices, ports := t.ports })

/-- An elapsed tenth grows the tally of the unit mode of every fitted unit by one tenth, unless the tally is saturated;
no other tally grows, and an unfitted unit counts nothing (R119, R120). A tenth that a running tally takes is taken by the delta
of its mode too, unless that is saturated; no other delta moves (R120, R123). A running tally that gains a second has the service
test made.

The service test (R124): it sets the flag and posts SERVICE_DUE exactly for a fitted unit with a nonzero limit, a clear flag and
a running total at the limit or more, and changes nothing otherwise.

That an issued tenth waits in a count until its row is taken is the model's choice (log entry 2). -/
def Obligations.TalliesGrowAndServiceFallsDue : Prop :=
  (∀ s : State, working s = true → s.clk.tenths ≠ 0 →
     ∃ t, exec .elapsedTenth s = .next t ∧ t.clk = { s.clk with tenths := s.clk.tenths - 1 }
       ∧ (let grows := fun (old new : Tally) =>
            (old.seconds = 4294967295 ∧ old.tenths = 9 → new = old)
              ∧ (¬(old.seconds = 4294967295 ∧ old.tenths = 9) → old.seconds ≤ 4294967295 → old.tenths ≤ 9 →
                  10 * new.seconds + new.tenths = 10 * old.seconds + old.tenths + 1 ∧ new.tenths ≤ 9)
          ∀ u m, isFitted s u = true → (s.units.get u).mode = some m →
           let x := s.units.get u
           let old := x.tallies.get m
           let full := old.seconds = 4294967295 ∧ old.tenths = 9
           let y := t.units.get u
           let new := y.tallies.get m
           let total := y.tallies.generating.seconds + y.tallies.pumping.seconds + y.tallies.condensing.seconds
           let limit := s.settings.tally.limits.get u
           grows old new
             ∧ (full → y.deltas = x.deltas)
             ∧ (¬full → old.seconds ≤ 4294967295 → old.tenths ≤ 9 →
                 (if m = .generating then grows x.deltas.generating y.deltas.generating
                   else y.deltas.generating = x.deltas.generating)
                   ∧ (if m = .pumping then grows x.deltas.pumping y.deltas.pumping else y.deltas.pumping = x.deltas.pumping)
                   ∧ (if m = .condensing then grows x.deltas.condensing y.deltas.condensing
                       else y.deltas.condensing = x.deltas.condensing)
                   ∧ y.deltas.counts = x.deltas.counts)
             ∧ (y.serviceDue = true ↔ x.serviceDue = true ∨ ((m = .generating ∨ m = .pumping ∨ m = .condensing)
                 ∧ old.seconds < new.seconds ∧ limit ≠ 0 ∧ limit ≤ total))
             ∧ (∀ k, k ≠ m → (t.units.get u).tallies.get k = x.tallies.get k)
             ∧ (t.units.get u).counts = x.counts ∧ (t.units.get u).mode = x.mode ∧ (t.units.get u).raw = x.raw)
       ∧ (∀ u, isFitted s u = false → t.units.get u = s.units.get u)
       ∧ t = { s with clk := t.clk, units := t.units, notices := t.notices })
    ∧ (∀ (u : Fin 8) (s : State),
         let x := s.units.get u
         let total := x.tallies.generating.seconds + x.tallies.pumping.seconds + x.tallies.condensing.seconds
         let due := isFitted s u = true ∧ s.settings.tally.limits.get u ≠ 0 ∧ x.serviceDue = false
           ∧ s.settings.tally.limits.get u ≤ total
         let t := serviceTest u s
         (due → t = { s with units := s.units.set u { x with serviceDue := true }, notices := (post .serviceDue s).notices })
           ∧ (¬due → t = s))

/-- SET MODE TABLE writes the 16 modes, and each fitted unit's raw mode is then the one the new table gives its code; a code that
is no mode is BAD_ARGUMENT and nothing is written (R116).

SET UNITS writes the fitted set and Ts; a unit newly fitted takes raw mode and unit mode from its code, one newly unfitted has
none; a set naming another unit is BAD_ARGUMENT (R117, R118).

SET SERVICE LIMIT writes a unit's limit, clears its flag and makes the service test at once; a unit above 7 is BAD_ARGUMENT
(R125). PRESET TALLY writes a tally with tenths 0, or a count, of a unit settled in STANDSTILL, and requests its record; another
unit state is NOT_NOW, and a unit or a selector that does not exist BAD_ARGUMENT (R126). With TALLY held by another port a PRESET
TALLY whose arguments exist is LOCKED, and changes nothing (R126, R188).

That a unit unfitted by SET UNITS keeps its counts, though its settling had reached the new Ts, is the model's choice (log entry
35). -/
def Obligations.UnitSettingsAreWritten : Prop :=
  (∀ (p : Port) (args : List Byte) (s : State), Ready p s → args.length = 16 → UnitsInv s →
     ((∃ b ∈ args, 7 ≤ b.toNat) → exec (.setModeTable p args) s = .next (refusedWith p .badArgument s))
       ∧ ((∀ b ∈ args, b.toNat ≤ 6) →
         ∃ t, exec (.setModeTable p args) s = .next (ofGroup p .tally .done s t)
           ∧ t = { s with settings := t.settings, units := t.units }
           ∧ t.settings = { s.settings with tally := { s.settings.tally with modeTable := t.settings.tally.modeTable } }
           ∧ (∀ k : Fin 16, (args.map BitVec.toNat)[k.val]? = some (t.settings.tally.modeTable.get k).code)
           ∧ UnitsInv t
           ∧ ∀ u, (t.units.get u).mode = (s.units.get u).mode ∧ (t.units.get u).tallies = (s.units.get u).tallies
               ∧ (t.units.get u).counts = (s.units.get u).counts))
    ∧ (∀ (p : Port) (args : List Byte) (s : State), Ready p s → args.length = 4 → UnitsInv s →
         let set := argNumber args 0 2
         let ts := argNumber args 2 2
         (256 ≤ set → exec (.setUnits p args) s = .next (refusedWith p .badArgument s))
           ∧ (set < 256 →
             ∃ t, exec (.setUnits p args) s = .next (ofGroup p .tally (rangeStatus 1 300 ts) s t)
               ∧ t.settings = { s.settings with tally := { s.settings.tally with
                   fitted := BitVec.ofNat 8 set, settle := min 300 (max 1 ts) } }
               ∧ UnitsInv t
               ∧ (∀ u, isFitted s u = false → isFitted t u = true →
                   (t.units.get u).mode = some (decodedMode s u) ∧ (t.units.get u).modeEntry = some (now s)
                     ∧ (t.units.get u).counts = (s.units.get u).counts)
               ∧ (∀ u, isFitted t u = false →
                   (t.units.get u).mode = none ∧ (t.units.get u).tallies = (s.units.get u).tallies
                     ∧ (t.units.get u).counts = (s.units.get u).counts)
               ∧ (∀ u, isFitted s u = true → isFitted t u = true → (t.units.get u).candidate.isSome →
                   since s (t.units.get u).settleStart < min 300 (max 1 ts) * 1000000)
               ∧ t.clk = s.clk ∧ t.log = s.log ∧ t.inputs = s.inputs ∧ t.pins = s.pins ∧ t.shift = s.shift))
    ∧ (∀ (p : Port) (args : List Byte) (u : Fin 8) (s : State), Ready p s →
         let x := s.units.get u
         let v := argNumber args 2 4
         (args.length = 5 → argNumber args 0 1 = u.val →
           exec (.setServiceLimit p args) s = .next (ofGroup p .tally .done s
             (serviceTest u
               { s with
                 settings := { s.settings with tally := { s.settings.tally with
                   limits := s.settings.tally.limits.set u (argNumber args 1 4) } }
                 units := s.units.set u { x with serviceDue := false } })))
           ∧ (args.length = 5 → 8 ≤ argNumber args 0 1 → exec (.setServiceLimit p args) s = .next (refusedWith p .badArgument s))
           ∧ (args.length = 6 → 8 ≤ argNumber args 0 1 ∨ 11 ≤ argNumber args 1 1 →
               exec (.presetTally p args) s = .next (refusedWith p .badArgument s))
           ∧ (args.length = 6 → argNumber args 0 1 = u.val → argNumber args 1 1 ≤ 10 → heldByOther s p .tally = true →
               exec (.presetTally p args) s = .next (refusedWith p .locked s))
           ∧ (args.length = 6 → argNumber args 0 1 = u.val → argNumber args 1 1 ≤ 10 → heldByOther s p .tally = false →
             (isFitted s u = false ∨ x.mode ≠ some .standstill ∨ x.candidate ≠ none →
               exec (.presetTally p args) s = .next (refusedWith p .notNow s))
               ∧ (isFitted s u = true → x.mode = some .standstill → x.candidate = none →
                 (∀ m, modeOf (argNumber args 1 1) = some m → m ≠ .generating → m ≠ .pumping → m ≠ .condensing →
                   exec (.presetTally p args) s = .next (answered p .done .empty s
                     (request (.unit u) (s.withUnit u { x with tallies := x.tallies.put m ⟨v, 0⟩ }))))
                   ∧ (∀ m, modeOf (argNumber args 1 1) = some m → m = .generating ∨ m = .pumping ∨ m = .condensing →
                     exec (.presetTally p args) s = .next (answered p .done .empty s
                       (serviceTest u (request (.unit u) (s.withUnit u { x with tallies := x.tallies.put m ⟨v, 0⟩ })))))
                   ∧ (argNumber args 1 1 = 7 →
                     exec (.presetTally p args) s = .next (answered p .done .empty s
                       (request (.unit u) (s.withUnit u { x with counts := { x.counts with genStarts := v } }))))
                   ∧ (argNumber args 1 1 = 8 →
                     exec (.presetTally p args) s = .next (answered p .done .empty s
                       (request (.unit u) (s.withUnit u { x with counts := { x.counts with pumpStarts := v } }))))
                   ∧ (argNumber args 1 1 = 9 →
                     exec (.presetTally p args) s = .next (answered p .done .empty s
                       (request (.unit u) (s.withUnit u { x with counts := { x.counts with aborted := v } }))))
                   ∧ (argNumber args 1 1 = 10 →
                     exec (.presetTally p args) s = .next (answered p .done .empty s
                       (request (.unit u) (s.withUnit u { x with counts := { x.counts with faults := v } })))))))

/-! ### The store and the supply -/

/-- A request (R137, R138): one for a record that waits already changes nothing; another joins the tail; with no program in progress
and an empty queue its program starts at once, with the content of that moment; in RETAIN it is discarded. A program of a two-copy
record writes the copy that is not the later valid one, of two invalid copies copy 1, with the later one's counter and 1, of two
invalid copies 1 (R135).

The interval timer run out (R141): the record of every unit that differs from its last committed content, and the current-shift
record, wait or are being written; the timer restarts with the I in force. The hourly timer does the same for the time record
(R142). -/
def Obligations.RequestsAndCommitTimers : Prop :=
  (∀ (r : RecordId) (s : State), QueueSafe s →
     let t := request r s
     (working s = false ∨ (∃ q ∈ s.store.queue, q.record = r) → t = s)
       ∧ (working s = true → (∀ q ∈ s.store.queue, q.record ≠ r) →
           (s.store.program ≠ none → t = { s with store := { s.store with
             queue := s.store.queue ++ [{ record := r, emergency := false, retry := false }] } })
             ∧ (s.store.program = none →
                 t.store.queue = [] ∧ t = { s with store := t.store, ports := t.ports }
                   ∧ ∃ x, t.store.program = some x ∧ x.content = contentNow s r ∧ x.start = now s ∧ x.emergency = false
                       ∧ x.retry = false
                       ∧ (let writes := fun (k : CopyNo) (n : BitVec 16) => x.copy = k ∧ x.counter = n
                          let picks := fun (one two : Bool) (a b : BitVec 16) =>
                            let twoLater := 1 ≤ (b - a).toNat ∧ (b - a).toNat ≤ 32767
                            (one = true → two = true → twoLater → writes .one (b + 1))
                              ∧ (one = true → two = true → ¬twoLater → writes .two (a + 1))
                              ∧ (one = true → two = false → writes .two (a + 1))
                              ∧ (one = false → two = true → writes .one (b + 1))
                              ∧ (one = false → two = false → writes .one 1)
                          let time := s.store.timeRecord
                          let shift := s.store.shiftContent
                          (r = .time → picks time.one.valid time.two.valid time.one.counter time.two.counter)
                            ∧ (r = .currentShift →
                                picks shift.one.valid shift.two.valid shift.one.counter shift.two.counter)
                            ∧ ∀ u, r = .unit u →
                                let unit := s.store.unitRecords.get u
                                picks unit.one.valid unit.two.valid unit.one.counter unit.two.counter))))
    ∧ (∀ s : State, working s = true → QueueSafe s →
         let asked := fun (t : State) (r : RecordId) =>
           (∃ q ∈ t.store.queue, q.record = r) ∨ ∃ x, t.store.program = some x ∧ x.content.record = r
         (∀ x, s.store.interval = some x → x.length ≤ since s x.start →
           ∃ t, exec .intervalTimerExpiry s = .next t ∧ asked t .currentShift
             ∧ (∀ u, (s.units.get u).record ≠ s.store.lastUnits.get u → asked t (.unit u))
             ∧ t.store.interval = some { start := now s, length := s.settings.tally.commitInterval * 10000000 }
             ∧ t = { s with store := { s.store with
                 queue := t.store.queue, program := t.store.program, interval := t.store.interval }, ports := t.ports })
           ∧ (∀ r, s.store.hourly = some r → 36000000000 ≤ since s r →
             ∃ t, exec .hourlyTimerExpiry s = .next t ∧ asked t .time ∧ t.store.hourly = some (now s)
               ∧ t = { s with store := { s.store with
                   queue := t.store.queue, program := t.store.program, hourly := t.store.hourly }, ports := t.ports }))

/-- The end of a program (R135, R136, R138 to R140, R195), for a queue with nothing waiting. Verified: the copy it wrote holds the
content with its counter and is valid, the other copy stands, and a unit's or the current shift's content is the last committed;
a shift record's slot, or the settings record, is valid with the content; every port whose SAVE SETTINGS is bound to the program
is answered DONE with WRITTEN.

Failed: what it wrote is invalid, the other copy stands, and STORE_FAULT is posted. With the retry mark clear the request joins
the tail once more with the mark set, so that its program begins again, and the ports stay bound; with the mark set it is
dropped, and the ports bound to it are answered DONE with NOT_WRITTEN.

That the outcome of the verify comes as an operand is the model's choice (log entry 10). -/
def Obligations.AProgramEndCommitsOrSpoils : Prop :=
  ∀ (x : Program) (s : State), working s = true → s.store.program = some x → 0 < since s x.start → s.store.queue = [] →
    StoreInv s →
    let told := fun (written : Bool) (t : State) => ∀ p, let c := s.ports.get p
      t.ports.get p = (if c.binding = some .program then
        { c with state := .answerReady, answer := some { status := .done, overrun := c.overrun, result := .saved written },
                 overrun := false, binding := none }
       else c)
    let settings := x.content.record = .settings
    (∃ t, exec (.programEnd true) s = .next t
      ∧ t.store.program = none ∧ t.store.queue = []
      ∧ t.store.counts = { s.store.counts with verified := satSucc 65535 s.store.counts.verified }
      ∧ (∀ u r, x.content = .unit u r →
          (t.store.unitRecords.get u).get x.copy = { content := r, counter := x.counter, valid := true }
            ∧ (t.store.unitRecords.get u).get x.copy.other = (s.store.unitRecords.get u).get x.copy.other
            ∧ t.store.lastUnits.get u = r)
      ∧ (∀ r, x.content = .time r →
          t.store.timeRecord.get x.copy = { content := r, counter := x.counter, valid := true }
            ∧ t.store.timeRecord.get x.copy.other = s.store.timeRecord.get x.copy.other)
      ∧ (∀ r, x.content = .currentShift r →
          t.store.shiftContent.get x.copy = { content := r, counter := x.counter, valid := true }
            ∧ t.store.shiftContent.get x.copy.other = s.store.shiftContent.get x.copy.other ∧ t.store.lastShift = r)
      ∧ (∀ r, x.content = .shiftRecord (some r) → ∀ k : Fin 16, t.store.slots.get k =
          (if k.val = r.number.toNat % 16 then { content := some r, valid := true } else s.store.slots.get k))
      ∧ (∀ r, x.content = .settings r → t.store.settingsRecord = { content := r, valid := true })
      ∧ (settings → told true t) ∧ (¬settings → t.ports = s.ports)
      ∧ t = { s with store := t.store, ports := t.ports })
      ∧ (∃ t, exec (.programEnd false) s = .next t
        ∧ t.store.queue = [] ∧ t.store.lastUnits = s.store.lastUnits ∧ t.store.lastShift = s.store.lastShift
        ∧ t.store.counts = { s.store.counts with
            failures := satSucc 65535 s.store.counts.failures
            dropped := if x.retry then satSucc 65535 s.store.counts.dropped else s.store.counts.dropped }
        ∧ (∀ u r, x.content = .unit u r →
            ((t.store.unitRecords.get u).get x.copy).valid = false
              ∧ (t.store.unitRecords.get u).get x.copy.other = (s.store.unitRecords.get u).get x.copy.other)
        ∧ (∀ r, x.content = .time r → (t.store.timeRecord.get x.copy).valid = false
            ∧ t.store.timeRecord.get x.copy.other = s.store.timeRecord.get x.copy.other)
        ∧ (∀ r, x.content = .currentShift r → (t.store.shiftContent.get x.copy).valid = false
            ∧ t.store.shiftContent.get x.copy.other = s.store.shiftContent.get x.copy.other)
        ∧ (∀ r, x.content = .shiftRecord (some r) → ∀ k : Fin 16, t.store.slots.get k =
            (if k.val = r.number.toNat % 16 then { s.store.slots.get k with valid := false } else s.store.slots.get k))
        ∧ (∀ r, x.content = .settings r → t.store.settingsRecord.valid = false)
        ∧ t.notices = (post .storeFault s).notices
        ∧ (x.retry = true → t.store.program = none ∧ (settings → told false t) ∧ (¬settings → t.ports = s.ports))
        ∧ (x.retry = false → t.ports = s.ports
            ∧ ∃ y, t.store.program = some y ∧ y.content = contentNow s x.content.record ∧ y.start = now s ∧ y.retry = true
                ∧ y.emergency = x.emergency)
        ∧ t = { s with store := t.store, ports := t.ports, notices := t.notices })

/-- The supply crosses its thresholds (R144 to R146): below the warning threshold NORMAL becomes WARNING, counted, and the queue is
rebuilt in the emergency order: the unit records queued or changed in unit order, the current-shift record and the time record,
all with the emergency mark and each with the retry mark its old request had, then the old requests for the shift record and the
settings as they were; the head's program begins when none runs.

At the restore threshold the restore timer runs in WARNING and RETAIN; a fall below it stops the timer; and after 100 ms in
WARNING the state is NORMAL again with every emergency mark clear, that of the program in progress too. -/
def Obligations.SupplyCrossingsMoveTheState : Prop :=
  ∀ s : State, s.supply.stopped = false →
    let old := s.store.queue
    let first := fun (r : RecordId) =>
      ({ record := r, emergency := true, retry := old.any fun q => decide (q.record = r) && q.retry } : Request)
    let units := (List.finRange 8).filter fun u =>
      (old.any fun q => decide (q.record = .unit u)) || decide ((s.units.get u).record ≠ s.store.lastUnits.get u)
    let order := units.map (fun u => first (.unit u)) ++ [first .currentShift, first .time]
      ++ old.filter fun q => decide (q.record = .shiftRecord ∨ q.record = .settings)
    (s.pins.supply = .atRestore ∨ s.pins.supply = .belowRestore → s.supply.state = .normal →
      ∃ t, exec .warningEntry s = .next t ∧ t.supply.state = .warning
        ∧ t.supply.warnings = satSucc 65535 s.supply.warnings ∧ t.supply.restore = none
        ∧ t.pins = { s.pins with supply := .belowWarning }
        ∧ (s.store.program ≠ none → t.store = { s.store with queue := order })
        ∧ (s.store.program = none → ∃ q rest x, order = q :: rest ∧ t.store.queue = rest
            ∧ t.store.program = some x ∧ x.content = contentNow s q.record ∧ x.emergency = q.emergency ∧ x.retry = q.retry
            ∧ x.start = now s)
        ∧ t = { s with supply := t.supply, pins := t.pins, store := t.store, ports := t.ports })
      ∧ (s.pins.supply ≠ .atRestore → s.supply.state ≠ .normal →
          exec .supplyRestoreRise s = .next
            { s with pins := { s.pins with supply := .atRestore }, supply := { s.supply with restore := some (now s) } })
      ∧ (s.pins.supply ≠ .atRestore → s.supply.state = .normal →
          exec .supplyRestoreRise s = .next { s with pins := { s.pins with supply := .atRestore } })
      ∧ (s.pins.supply = .atRestore →
          exec .supplyRestoreFall s = .next
            { s with pins := { s.pins with supply := .belowRestore }, supply := { s.supply with restore := none } })
      ∧ (∀ r, s.supply.state = .warning → s.supply.restore = some r → 1000000 ≤ since s r →
          exec .returnToNormal s = .next
            { s with
              supply := { s.supply with state := .normal, restore := none }
              store := { s.store with
                queue := old.map fun q => { q with emergency := false }
                program := s.store.program.map fun x => { x with emergency := false } } })

/-- RETAIN entry with a sound backup cell (R26, R43, R61, R80, R110, R130, R147, R178, R198, R207): the gap start is stamped; the
queue is dropped, each request counted; a program is torn and counted: what it wrote is invalid, the other copy and every other
record stand; discipline stops with station time kept; captures, patterns, changes that may
be glitches, telegrams, the slot and the pulses are gone; the open burst closes; the ports are idle; no notice is pending and
every attention line is released. Of the field lines only the supply moves. In RETAIN the fall only stops the restore timer
(R144); without a fall nothing moves.

The model's choices: the gap is stamped before the clock takes RETAIN entry (log entry 24); from NORMAL the warning is counted, the
queue dropped is that of the emergency order, and no program begins between (log entry 23). -/
def Obligations.RetainEntryStopsTheBlocks : Prop :=
  (∀ s : State, s.supply.stopped = false → s.pins.supply = .belowLow → exec .retainEntry s = .next s)
  ∧ (∀ s : State, s.supply.stopped = false → s.pins.supply ≠ .belowLow → s.supply.state = .retain →
    exec .retainEntry s = .next
      { s with pins := { s.pins with supply := .belowLow }, supply := { s.supply with restore := none } })
  ∧ ∀ s : State, s.supply.stopped = false → s.supply.state ≠ .retain → s.pins.supply ≠ .belowLow → s.supply.cellLost = false →
    BurstInv s →
    let queue := s.store.queue
    let units := (List.finRange 8).filter fun u =>
      (queue.any fun q => decide (q.record = .unit u)) || decide ((s.units.get u).record ≠ s.store.lastUnits.get u)
    let late := queue.filter fun q => decide (q.record = .shiftRecord ∨ q.record = .settings)
    let dropped := if s.supply.state = .normal then units.length + 2 + late.length else queue.length
    ∃ t, exec .retainEntry s = .next t
      ∧ t.supply.state = .retain
      ∧ t.supply.gapStart = some { time := s.clk.time, epoch := s.clk.epoch, grade := gradeNow s, u := reportedU s }
      ∧ t.supply.incomplete = (s.store.program.isSome || decide (dropped ≠ 0))
      ∧ (t.supply.restore = none ∧ t.supply.warnings =
          if s.supply.state = .normal then satSucc 65535 s.supply.warnings else s.supply.warnings)
      ∧ (t.store.program = none ∧ t.store.queue = [] ∧ t.store.interval = none ∧ t.store.hourly = none
          ∧ t.store.counts.dropped = min 65535 (s.store.counts.dropped + dropped)
          ∧ t.store.lastUnits = s.store.lastUnits ∧ t.store.lastShift = s.store.lastShift)
      ∧ (s.store.program = none → t.store = { s.store with
          queue := [], interval := none, hourly := none, counts := { s.store.counts with dropped := t.store.counts.dropped } })
      ∧ (∀ x, s.store.program = some x →
          t.store.counts = { s.store.counts with
              torn := satSucc 65535 s.store.counts.torn, dropped := t.store.counts.dropped }
            ∧ (∀ u r, x.content = .unit u r → ((t.store.unitRecords.get u).get x.copy).valid = false
                ∧ (t.store.unitRecords.get u).get x.copy.other = (s.store.unitRecords.get u).get x.copy.other
                ∧ ∀ v, v ≠ u → t.store.unitRecords.get v = s.store.unitRecords.get v)
            ∧ (∀ r, x.content = .time r → (t.store.timeRecord.get x.copy).valid = false
                ∧ t.store.timeRecord.get x.copy.other = s.store.timeRecord.get x.copy.other)
            ∧ (∀ r, x.content = .currentShift r → (t.store.shiftContent.get x.copy).valid = false
                ∧ t.store.shiftContent.get x.copy.other = s.store.shiftContent.get x.copy.other)
            ∧ (∀ r, x.content = .shiftRecord (some r) → ∀ k : Fin 16, t.store.slots.get k =
                (if k.val = r.number.toNat % 16 then { s.store.slots.get k with valid := false } else s.store.slots.get k))
            ∧ (∀ r, x.content = .settings r → t.store.settingsRecord.valid = false)
            ∧ ((∀ u r, x.content ≠ .unit u r) → t.store.unitRecords = s.store.unitRecords)
            ∧ ((∀ r, x.content ≠ .time r) → t.store.timeRecord = s.store.timeRecord)
            ∧ ((∀ r, x.content ≠ .currentShift r) → t.store.shiftContent = s.store.shiftContent)
            ∧ ((∀ r, x.content ≠ .shiftRecord r) → t.store.slots = s.store.slots)
            ∧ ((∀ r, x.content ≠ .settings r) → t.store.settingsRecord = s.store.settingsRecord))
      ∧ (t.clk.time = s.clk.time ∧ t.clk.epoch = s.clk.epoch ∧ t.clk.trim = s.clk.trim ∧ t.clk.u = s.clk.u
          ∧ t.clk.slew = 0 ∧ t.clk.slot = none ∧ t.clk.secOut = none ∧ now t = now s)
      ∧ (s.clk.state = .acquiring ∨ s.clk.state = .tracking ∨ s.clk.state = .locked →
          t.clk.state = (if 65535 ≤ s.clk.u then .free else .holdover))
      ∧ t.mq = { s.mq with
          recogniser := if s.mq.recogniser = .suspended then .suspended else .waitLow, edge := none, pattern := none,
          streak := [] }
      ∧ t.tl = { s.tl with
          receiver := .awaitHigh, sendState := .idle, freeCount := 0, highSince := none, capture := none, outgoing := none,
          readBits := [] }
      ∧ (∀ i, (t.inputs.get i).state = (match (s.inputs.get i).state with
          | .qualifying => .idle | .releasing => .active | x => x))
      ∧ (t.bursts.openRef = none ∧ t.bursts.holdCount = s.bursts.holdCount)
      ∧ (∀ u, (t.units.get u).candidate = none ∧ (t.units.get u).raw = (s.units.get u).mode
          ∧ (t.units.get u).mode = (s.units.get u).mode ∧ (t.units.get u).tallies = (s.units.get u).tallies)
      ∧ t.shift = { s.shift with bell := none }
      ∧ (∀ p, (t.ports.get p).state = .idle ∧ (t.ports.get p).answer = none ∧ (t.ports.get p).overrun = false
          ∧ (t.ports.get p).answerBits = [])
      ∧ (∀ p, t.notices.get p = { pending := 0, holdoff := none, attention := false })
      ∧ t.pins = { s.pins with supply := .belowLow } ∧ t.settings = s.settings ∧ t.log = s.log ∧ t.locks = s.locks

/-- The warm start, 100 ms after the supply stands at the restore threshold in RETAIN (R28, R43, R62, R81, R131, R149, R179, R198,
R208): the state is NORMAL; one SUPPLY_GAP entry holds the gap's stamps and the incomplete flag; SUPPLY_RETURN is pending at
every port; the ports are idle and the locks free; inputs and fitted units take their levels and codes; the time record waits or
is being written; both commit timers restart.

The receiver awaits a high line with the line-free count from now, the silence timer restarts, a STANDBY is WAITING, and the rest
of the time line is kept (R62); the source is selected again, and with no change the Mark Qualifier is as it was (R43). The
Shift Controller fires the boundaries of the gap as those of a step, an open handover whose window has run is overdue, and the
worst grade takes the grade now (R179). -/
def Obligations.WarmStartResumesTheBlocks : Prop :=
  ∀ (r : Reading) (g : GapStart) (s : State), s.supply.stopped = false → s.supply.state = .retain →
    s.supply.restore = some r → 1000000 ≤ since s r → s.supply.gapStart = some g → QueueSafe s → LineInv s →
    ∃ t, exec .warmStart s = .next t
      ∧ t.supply = { s.supply with state := .normal, restore := none, gapStart := none, incomplete := false }
      ∧ t.log.nextSeq = s.log.nextSeq + 1
      ∧ (∃ e, t.log.ring.getLast? = some e ∧ e.seq = s.log.nextSeq
          ∧ e.body = .supplyGap g.time.stamp s.clk.time.stamp s.supply.incomplete)
      ∧ (t.clk.time = s.clk.time ∧ t.clk.epoch = s.clk.epoch ∧ t.clk.trim = s.clk.trim ∧ t.clk.slew = 0
          ∧ t.clk.silence = none ∧ t.clk.slot = none ∧ t.clk.prevMark = none ∧ now t = now s)
      ∧ t.tl = { s.tl with
          receiver := .awaitHigh, freeCount := 0, silence := now s
          highSince := if s.pins.timeLine = .high then some (now s) else none
          phase := if s.settings.line.role = .standby then .waiting else s.tl.phase }
      ∧ t.mq.selected = (if s.mq.faulted = false ∧ s.mq.fibrePresence.isSome then .fibre
          else if s.settings.line.lineMarks = true ∧ s.mq.peerPresence.isSome then .line else .noSource)
      ∧ (t.mq.selected = s.mq.selected → t.mq = s.mq)
      ∧ (let reported := reportStep g.time s.clk.time s
         t.shift.markers = reported.shift.markers
           ∧ (s.clk.state = .unset ∨ s.clk.state = .free ∨ s.clk.state = .holdover →
               t.shift.handover = reported.shift.handover)
           ∧ (∀ h, s.shift.state = .handoverOpen → s.shift.handover = some h →
               t.shift.state = (if s.settings.shift.window * 600000000 ≤ since s h.reading
                 then .handoverOverdue else .handoverOpen))
           ∧ (reported.shift.state ≠ .handoverOpen → t.shift.state = reported.shift.state)
           ∧ t.shift.current = { s.shift.current with
               worst := if s.shift.current.worst.rank < (gradeNow t).rank then gradeNow t else s.shift.current.worst }
           ∧ t.shift.records = s.shift.records)
      ∧ (∀ p, hasKind (t.notices.get p).pending .supplyReturn = true)
      ∧ (∀ p, (t.ports.get p).state = .idle ∧ (t.ports.get p).answer = none)
      ∧ t.locks = ⟨none, none, none, none, none, none⟩
      ∧ (∀ i, (s.settings.inputs.inputs.get i).enabled = true → (s.inputs.get i).state ≠ .blocked →
          (t.inputs.get i).state = (if inputActive s i then .active else .idle)
            ∧ (t.inputs.get i).score = (s.inputs.get i).score)
      ∧ (∀ u, isFitted s u = true →
          (t.units.get u).mode = some (decodedMode s u) ∧ (t.units.get u).raw = some (decodedMode s u)
            ∧ (t.units.get u).candidate = none ∧ (t.units.get u).tallies = (s.units.get u).tallies)
      ∧ t.store.interval = some { start := now s, length := s.settings.tally.commitInterval * 10000000 }
      ∧ t.store.hourly = some (now s)
      ∧ ((∃ q ∈ t.store.queue, q.record = .time) ∨ ∃ x, t.store.program = some x ∧ x.content.record = .time)
      ∧ t.settings = s.settings ∧ t.pins = s.pins ∧ t.bursts.openRef = s.bursts.openRef

/-- The backup cell lost (R148): in RETAIN the part stops, its working memory lost and its store records kept; outside RETAIN the next
RETAIN entry stops it, with the store records that this entry leaves.

A part that waits for its cold start has COLD_START asserted while its supply stands at the low threshold
or above, and nothing without power (R210).

The cold start (R27, R44, R63, R90, R111, R199): the elapsed base is 0, the clock UNSET; the log and the burst table are empty;
the ports are idle, the locks free, COLD_START pending and every attention line asserted.

The load (R82, R133, R150 to R153, R180): a valid settings record gives every setting, clamped into its range, else the defaults;
the time record's later valid copy gives trim and epoch; each unit record its tallies and counts; an enabled input takes its
level, a fitted unit the mode of its code with the flag of R133; the current shift is the record's, or number 0, crew 0 with the
start stamp of now and the epoch loaded; the list holds the records of the valid slots, the least distance behind the current
number first.

The model's choices: the outputs of a part without power, and that COLD_START vouches for the 100 ms (log entry 26); each number of
the settings record clamped into its command's range, the start kinds always enabled (log entry 27). -/
def Obligations.ALostCellAndTheColdStart : Prop :=
  let signals := fun (t : State) => ∀ p, t.notices.get p =
    (if t.pins.supply = .belowLow then { pending := 0, holdoff := none, attention := false }
     else { pending := 1, holdoff := none, attention := true })
  (∀ s : State, s.supply.stopped = false →
     (s.supply.state ≠ .retain →
       exec .backupCellLost s = .next { s with supply := { s.supply with cellLost := true } })
       ∧ (s.supply.state = .retain →
         ∃ t, exec .backupCellLost s = .next t ∧ t.supply.stopped = true ∧ working t = false
           ∧ (t.store.timeRecord = s.store.timeRecord ∧ t.store.unitRecords = s.store.unitRecords
               ∧ t.store.shiftContent = s.store.shiftContent ∧ t.store.settingsRecord = s.store.settingsRecord
               ∧ t.store.slots = s.store.slots)
           ∧ t.pins = s.pins ∧ t.pending = s.pending ∧ signals t)
       ∧ (s.supply.state ≠ .retain → s.supply.cellLost = true → s.pins.supply ≠ .belowLow →
         ∃ t u, exec .retainEntry s = .next t
           ∧ exec .retainEntry { s with supply := { s.supply with cellLost := false } } = .next u
           ∧ t.supply.stopped = true ∧ working t = false
           ∧ (t.store.timeRecord = u.store.timeRecord ∧ t.store.unitRecords = u.store.unitRecords
               ∧ t.store.shiftContent = u.store.shiftContent ∧ t.store.settingsRecord = u.store.settingsRecord
               ∧ t.store.slots = u.store.slots)
           ∧ t.pins = { s.pins with supply := .belowLow } ∧ t.pending = s.pending ∧ signals t))
    ∧ (∀ s : State, s.supply.stopped = true → signals s →
         (∃ t, exec .supplyRestoreRise s = .next t ∧ signals t) ∧ (∃ t, exec .supplyRestoreFall s = .next t ∧ signals t)
           ∧ (∃ t, exec .warningEntry s = .next t ∧ signals t) ∧ (∃ t, exec .retainEntry s = .next t ∧ signals t))
    ∧ (∀ s : State, s.supply.stopped = true → s.pins.supply = .atRestore →
         let old := s.store.settingsRecord.content
         let within := fun (lo hi v : Nat) => min hi (max lo v)
         ∃ t, exec .coldStart s = .next t
           ∧ (now t = 0 ∧ t.clk.time = ⟨0, 0, 0⟩ ∧ t.clk.state = .unset ∧ t.clk.stage = .free ∧ t.clk.slew = 0
               ∧ t.clk.u = 65535 ∧ t.clk.slot = none)
           ∧ (∀ k, s.store.timeRecord.later = some k →
               t.clk.epoch = (s.store.timeRecord.get k).content.epoch
                 ∧ t.clk.trim = max (-200000) (min 200000 (s.store.timeRecord.get k).content.trim))
           ∧ (s.store.timeRecord.later = none → t.clk.epoch = 0 ∧ t.clk.trim = 0)
           ∧ (∀ u k, (s.store.unitRecords.get u).later = some k →
               (t.units.get u).tallies = ((s.store.unitRecords.get u).get k).content.tallies
                 ∧ (t.units.get u).counts = ((s.store.unitRecords.get u).get k).content.counts)
           ∧ (∀ u, (s.store.unitRecords.get u).later = none →
               (t.units.get u).tallies = .zero ∧ (t.units.get u).counts = ⟨0, 0, 0, 0⟩)
           ∧ (∀ u, let x := t.units.get u
               let limit := t.settings.tally.limits.get u
               let total := x.tallies.generating.seconds + x.tallies.pumping.seconds + x.tallies.condensing.seconds
               x.candidate = none
                 ∧ (isFitted t u = true → x.raw = some (decodedMode t u) ∧ x.mode = x.raw ∧ x.modeEntry = some 0
                     ∧ x.serviceDue = decide (limit ≠ 0 ∧ limit ≤ total))
                 ∧ (isFitted t u = false → x.raw = none ∧ x.mode = none ∧ x.modeEntry = none ∧ x.serviceDue = false))
           ∧ (∀ i, t.inputs.get i = { capture := none, score := 0, lastAssert := none, state :=
               if (t.settings.inputs.inputs.get i).enabled then (if inputActive t i then .active else .idle) else .disabled })
           ∧ (s.store.settingsRecord.valid = false → t.settings = .default)
           ∧ (s.store.settingsRecord.valid = true →
               t.settings.time = { old.time with
                 kp := within 1 6 old.time.kp, kf := min 5 old.time.kf, stepLimit := within 1000 5000000 old.time.stepLimit,
                 lockLimit := within 10 10000 old.time.lockLimit, growthPeriod := within 1 3600 old.time.growthPeriod,
                 pulseWidth := within 1 500 old.time.pulseWidth, markWindow := within 100 50000 old.time.markWindow }
               ∧ t.settings.line = { old.line with
                   takeover := within 2 15 old.line.takeover, crossLimit := within 10 10000 old.line.crossLimit,
                   delay := min 2000 old.line.delay }
               ∧ (∀ i, t.settings.inputs.inputs.get i =
                   { old.inputs.inputs.get i with tq := within 1 255 (old.inputs.inputs.get i).tq })
               ∧ t.settings.inputs = { old.inputs with
                   inputs := t.settings.inputs.inputs, chatter := within 1 100 old.inputs.chatter,
                   burstGap := within 20 5000 old.inputs.burstGap }
               ∧ (∀ u, t.settings.tally.limits.get u = min 4294967295 (old.tally.limits.get u))
               ∧ t.settings.tally = { old.tally with
                   limits := t.settings.tally.limits, settle := within 1 300 old.tally.settle,
                   commitInterval := within 60 3600 old.tally.commitInterval }
               ∧ t.settings.shift =
                   { schedule := old.shift.schedule.map fun b => { b with second := min 86399 b.second },
                     window := within 1 120 old.shift.window, bellWidth := within 5 100 old.shift.bellWidth }
               ∧ ∀ p, t.settings.notice.get p = { old.notice.get p with
                   enable := (old.notice.get p).enable ||| 7, holdoff := min 1000 (old.notice.get p).holdoff })
           ∧ (t.log = .reset ∧ t.bursts = .reset ∧ t.mq = .reset)
           ∧ t.tl = { TimeLine.reset with highSince := if s.pins.timeLine = .high then some 0 else none }
           ∧ (t.supply.state = .normal ∧ t.supply.stopped = false)
           ∧ (t.shift.state = .onShift ∧ t.shift.handover = none ∧ t.shift.holdCount = 0 ∧ t.shift.bell = none
               ∧ t.shift.markers = t.settings.shift.schedule.map (fun _ => none) ∧ t.shift.current.interrupted = true
               ∧ t.shift.current.worst = .e ∧ t.shift.current.startReading = 0)
           ∧ (∀ k, s.store.shiftContent.later = some k →
               let x := (s.store.shiftContent.get k).content
               t.shift.current.number = x.number ∧ t.shift.current.crew = x.crew ∧ t.shift.current.start = x.start
                 ∧ t.shift.current.summary = x.summary ∧ ∀ u, (t.units.get u).deltas = x.deltas.get u)
           ∧ (s.store.shiftContent.later = none →
               t.shift.current.number = 0 ∧ t.shift.current.crew = 0 ∧ t.shift.current.summary = ⟨0, 0, 0⟩
                 ∧ t.shift.current.start = { stamp := ⟨0, 0, 0⟩, epoch := t.clk.epoch, grade := .e, u := 65535 }
                 ∧ ∀ u, (t.units.get u).deltas = .zero)
           ∧ (t.shift.records.Perm (s.store.slots.cells.filterMap fun x => if x.valid then x.content else none)
               ∧ t.shift.records.Pairwise fun a b =>
                   (t.shift.current.number - a.number).toNat ≤ (t.shift.current.number - b.number).toNat)
           ∧ (∀ p, (t.ports.get p).state = .idle ∧ (t.ports.get p).answer = none ∧ (t.ports.get p).answerBits = [])
           ∧ t.locks = ⟨none, none, none, none, none, none⟩
           ∧ (∀ p, hasKind (t.notices.get p).pending .coldStart = true ∧ (t.notices.get p).attention = true
               ∧ (t.notices.get p).holdoff = none)
           ∧ (t.store.queue = [] ∧ t.store.program = none ∧ t.store.hourly = some 0
               ∧ t.store.interval = some ⟨0, t.settings.tally.commitInterval * 10000000⟩
               ∧ t.store.counts = ⟨0, 0, 0, 0⟩ ∧ t.store.load.settingsLoaded = s.store.settingsRecord.valid
               ∧ t.store.load.slots = t.shift.records.length)
           ∧ t.store.timeRecord = s.store.timeRecord ∧ t.store.slots = s.store.slots ∧ t.pins = s.pins ∧ t.pending = s.pending)

/-- At line reset the pending-date slot is emptied and the rest of the Time Base, the units, the store and the supply continue as
they were (R29, R132, R155); the ports stop, the locks are free, and LINE_RESET alone is pending at every port, asserted (R197,
R209). In RETAIN only the line moves; its rise moves only the line.

That a stopped port has shifted nothing out is the model's choice (log entry 32). -/
def Obligations.LineResetStopsThePorts : Prop :=
  ∀ s : State,
    (s.pins.resetN = .high → working s = true →
      exec .lineReset s = .next
        { s with
          pins := { s.pins with resetN := .low }
          clk := { s.clk with slot := none }
          locks := ⟨none, none, none, none, none, none⟩
          ports := ⟨s.ports.a.stop, s.ports.b.stop, s.ports.c.stop⟩
          notices :=
            let n : Notices := { pending := NoticeKind.lineReset.bit, holdoff := none, attention := true }
            ⟨n, n, n⟩ })
      ∧ (s.pins.resetN = .high → working s = false →
          exec .lineReset s = .next { s with pins := { s.pins with resetN := .low } })
      ∧ exec .resetNRise s = .next { s with pins := { s.pins with resetN := .high } }

/-! ### Shifts and handovers -/

/-- OPEN HANDOVER in ON_SHIFT opens a handover by the port, with no expected crew, the command's stamp and reading, HANDOVER_OPEN
posted and the bell rung; with a handover open it is NOT_NOW (R164, R174). The window of an open handover that has run makes it
overdue, with HANDOVER_OVERDUE and the bell (R165).

CANCEL HANDOVER in HANDOVER_OPEN or HANDOVER_OVERDUE returns the state to ON_SHIFT and discards the open handover, with DONE;
the current shift, the markers, the records, the bell and the notices stand. In ON_SHIFT it is NOT_NOW and nothing changes
(R170). -/
def Obligations.HandoversOpenFallOverdueAndAreCancelled : Prop :=
  (∀ (p : Port) (s : State),
     let bell : Option Interval := some { start := now s, length := s.settings.shift.bellWidth * 1000000 }
     (Ready p s → s.shift.state = .onShift →
       exec (.openHandover p []) s = .next (answered p .done .empty s
         { s with
           shift := { s.shift with
             state := .handoverOpen, bell := bell,
             handover := some
               { openedBy := .port p, expected := none, stamp := stampNow s, reading := now s, released := none,
                 accepted := none, missed := 0 } }
           notices := (post .handoverOpen s).notices }))
       ∧ (Ready p s → s.shift.state ≠ .onShift → exec (.openHandover p []) s = .next (refusedWith p .notNow s))
       ∧ (∀ h, working s = true → s.shift.state = .handoverOpen → s.shift.handover = some h →
           s.settings.shift.window * 600000000 ≤ since s h.reading →
           exec .handoverWindowExpiry s = .next
             { s with
               shift := { s.shift with state := .handoverOverdue, bell := bell }
               notices := (post .handoverOverdue s).notices }))
    ∧ (∀ (p : Port) (s : State), Ready p s →
         (s.shift.state = .handoverOpen ∨ s.shift.state = .handoverOverdue →
           exec (.cancelHandover p []) s = .next (answered p .done .empty s
             { s with shift := { s.shift with state := .onShift, handover := none } }))
           ∧ (s.shift.state = .onShift → exec (.cancelHandover p []) s = .next (refusedWith p .notNow s)))

/-- RELEASE SHIFT, ACCEPT SHIFT and FORCE HANDOVER (R166 to R169): NOT_NOW in ON_SHIFT; a release keeps the first port; a crew above
15 is BAD_ARGUMENT, the crew on shift or one other than the expected is WRONG_CREW; a handover released and accepted with a
hold count of 0 completes as part of the command, and a forced one completes whatever stands.

An acknowledgement that brings the hold count to 0 completes a handover released and accepted before, as part of the command
(R101, R168). -/
def Obligations.HandoverCommandsAreJudged : Prop :=
  (∀ (p : Port) (args : List Byte) (h : Handover) (s : State), Ready p s → args.length = 1 →
     let n := argNumber args 0 1
     let c := BitVec.ofNat 4 n
     let opens := fun (x : Handover) => ({ s with shift := { s.shift with handover := some x } } : State)
     let fits := c ≠ s.shift.current.crew ∧ (h.expected = none ∨ h.expected = some c)
     let released : Handover := { h with released := some (h.released.getD p) }
     let accepted : Handover := { h with accepted := some { crew := c, port := p } }
     (s.shift.state = .onShift →
       exec (.releaseShift p []) s = .next (refusedWith p .notNow s)
         ∧ (n < 16 → exec (.acceptShift p args) s = .next (refusedWith p .notNow s)
             ∧ exec (.forceHandover p args) s = .next (refusedWith p .notNow s)))
       ∧ (16 ≤ n → exec (.acceptShift p args) s = .next (refusedWith p .badArgument s)
           ∧ exec (.forceHandover p args) s = .next (refusedWith p .badArgument s))
       ∧ (s.shift.state ≠ .onShift → s.shift.handover = some h →
         (∀ a, h.accepted = some a → s.shift.holdCount = 0 →
           exec (.releaseShift p []) s = .next (answered p .done .empty s (complete released a false (opens released))))
           ∧ (h.accepted = none ∨ s.shift.holdCount ≠ 0 →
               exec (.releaseShift p []) s = .next (answered p .done .empty s (opens released)))
           ∧ (n < 16 → ¬fits → exec (.acceptShift p args) s = .next (refusedWith p .wrongCrew s)
               ∧ exec (.forceHandover p args) s = .next (refusedWith p .wrongCrew s))
           ∧ (n < 16 → fits →
               (h.released ≠ none → s.shift.holdCount = 0 →
                 exec (.acceptShift p args) s = .next (answered p .done .empty s
                   (complete accepted { crew := c, port := p } false (opens accepted))))
                 ∧ (h.released = none ∨ s.shift.holdCount ≠ 0 →
                     exec (.acceptShift p args) s = .next (answered p .done .empty s (opens accepted)))
                 ∧ exec (.forceHandover p args) s = .next (answered p .done .empty s
                     (complete accepted { crew := c, port := p } true s)))))
    ∧ (∀ (p : Port) (args : List Byte) (h : Handover) (a : Acceptance) (r : BurstRecord) (s : State), Ready p s →
         args.length = 2 → BurstInv s → r ∈ s.bursts.records → r.number.toNat = argNumber args 0 2 → r.state ≠ .forming →
         r.ack = none → r.actions.holdHandover = true → s.bursts.holdCount = 1 → s.shift.handover = some h →
         h.released ≠ none → h.accepted = some a →
         exec (.ackBurst p args) s = .next (answered p .done .empty s (complete h a false
           { s with
             bursts := { s.bursts with
               records := s.bursts.records.map fun x => if x.number = r.number then { r with ack := some p } else x
               holdCount := 0 }
             shift := { s.shift with holdCount := 0 } })))

/-- A completion (R171 to R173): the record of the outgoing shift joins the list, which keeps 16; its unit entries ascend; the next
shift begins with the next number, the crew in and the present stamp, its worst grade the present one and its summary 0; the deltas of all units are
0; the handover is gone; HANDOVER_DONE is posted and the bell rung; and the shift record and the current shift are requested.

That the list keeps 16, so that a record leaves at the sixteenth later completion, is the model's choice (log entry 37). -/
def Obligations.ACompletionBuildsTheRecord : Prop :=
  ∀ (h : Handover) (a : Acceptance) (forced : Bool) (s : State), working s = true → QueueSafe s →
    let old := s.shift.current
    let grown := fun (u : Fin 8) =>
      let d := (s.units.get u).deltas
      d.generating.seconds ≠ 0 ∨ d.pumping.seconds ≠ 0 ∨ d.condensing.seconds ≠ 0 ∨ d.counts ≠ ⟨0, 0, 0, 0⟩
    let t := complete h a forced s
    ∃ r : ShiftRecord, t.shift.records = (r :: s.shift.records).take 16
      ∧ r = { r with
          number := old.number, crewOut := old.crew, crewIn := a.crew, start := old.start, opened := h.stamp,
          completed := stampNow s, duration := since s h.reading / 10000000,
          length := min 4294967295 (since s old.startReading / 10000000), openedBy := h.openedBy, releasedBy := h.released,
          acceptedBy := a.port, overdue := decide (s.shift.state = .handoverOverdue),
          forcedHold := if forced then some s.shift.holdCount else none, interrupted := old.interrupted, missed := h.missed,
          worst := if old.worst.rank < (gradeNow s).rank then gradeNow s else old.worst, summary := old.summary }
      ∧ (∀ e, e ∈ r.units ↔ isFitted s e.unit = true ∧ grown e.unit
          ∧ e.genSeconds = (s.units.get e.unit).deltas.generating.seconds
          ∧ e.pumpSeconds = (s.units.get e.unit).deltas.pumping.seconds
          ∧ e.condSeconds = (s.units.get e.unit).deltas.condensing.seconds
          ∧ e.counts = (s.units.get e.unit).deltas.counts)
      ∧ r.units.Pairwise (fun a b => a.unit.val < b.unit.val)
      ∧ t.shift.current =
          { number := old.number + 1, crew := a.crew, start := stampNow s, startReading := now s, interrupted := false,
            worst := gradeNow s, summary := ⟨0, 0, 0⟩ }
      ∧ t.shift.state = .onShift ∧ t.shift.handover = none ∧ t.shift.markers = s.shift.markers
      ∧ t.shift.holdCount = s.shift.holdCount
      ∧ t.shift.bell = some { start := now s, length := s.settings.shift.bellWidth * 1000000 }
      ∧ (∀ u, t.units.get u = { s.units.get u with deltas := .zero })
      ∧ t.notices = (post .handoverDone s).notices
      ∧ (∀ rec : RecordId, rec = .shiftRecord ∨ rec = .currentShift →
          (∃ q ∈ t.store.queue, q.record = rec) ∨ ∃ x, t.store.program = some x ∧ x.content.record = rec)
      ∧ t.clk = s.clk ∧ t.log = s.log ∧ t.bursts = s.bursts ∧ t.inputs = s.inputs ∧ t.settings = s.settings

/-- SET SCHEDULE writes 0 to 6 boundaries in ascending order of second, each with the present day as its marker when its second is
at or before the present one, else the day before; a count above 6, a second of 86,400 or more, a crew that is neither 0..15 nor
ANY, or a second twice is BAD_ARGUMENT (R156, R160).

SET SHIFT TIMES writes Wh and the bell width, clamped; a handover whose window has then run is overdue at once, with its notice
and the bell at the new width (R165, R177). -/
def Obligations.ScheduleAndShiftTimesAreWritten : Prop :=
  (∀ (p : Port) (args : List Byte) (n : Nat) (s : State), Ready p s → argNumber args 0 1 = n → args.length = 1 + 4 * n →
     n ≤ 14 →
     let second := fun k => argNumber args (1 + 4 * k) 3
     let crew := fun k => argNumber args (4 + 4 * k) 1
     let good := n ≤ 6 ∧ (∀ k < n, second k < 86400 ∧ (crew k ≤ 15 ∨ crew k = 255))
       ∧ ∀ j k, j < n → k < n → second j = second k → j = k
     (good → ∃ bs : List Boundary,
       exec (.setSchedule p args) s = .next (ofGroup p .shift .done s
         { s with
           settings := { s.settings with shift := { s.settings.shift with schedule := bs } }
           shift := { s.shift with
             markers := bs.map (fun b =>
               some (if b.second ≤ s.clk.time.second then s.clk.time.day else s.clk.time.day - 1)) } })
         ∧ bs.length = n ∧ bs.Pairwise (fun b c => b.second < c.second)
         ∧ ∀ k < n, { second := second k, crew := if crew k = 255 then none else some (BitVec.ofNat 4 (crew k)) } ∈ bs)
       ∧ (¬good → exec (.setSchedule p args) s = .next (refusedWith p .badArgument s)))
    ∧ (∀ (p : Port) (args : List Byte) (s : State), Ready p s → args.length = 2 →
         let wh := argNumber args 0 1
         let w := argNumber args 1 1
         let status : Status := if (1 ≤ wh ∧ wh ≤ 120) ∧ 5 ≤ w ∧ w ≤ 100 then .done else .doneClamped
         let t : State := { s with settings := { s.settings with shift := { s.settings.shift with
           window := min 120 (max 1 wh), bellWidth := min 100 (max 5 w) } } }
         let overdue := s.shift.state = .handoverOpen
           ∧ ∃ h, s.shift.handover = some h ∧ min 120 (max 1 wh) * 600000000 ≤ since s h.reading
         (¬overdue → exec (.setShiftTimes p args) s = .next (ofGroup p .shift status s t))
           ∧ (overdue → exec (.setShiftTimes p args) s = .next (ofGroup p .shift status s
               { t with
                 shift := { s.shift with
                   state := .handoverOverdue
                   bell := some { start := now s, length := min 100 (max 5 w) * 1000000 } }
                 notices := (post .handoverOverdue s).notices })))

/-! ### Notices -/

/-- A posting (R200 to R202): outside RETAIN each port that has the kind enabled has it pending, and its attention line is asserted
unless its holdoff runs; a port that has not, and every port in RETAIN, stands as it was.

CLEAR NOTICES removes the kinds it names from its own port's pending set, starts the holdoff in force, and answers the set before
and after; the line is released while the holdoff runs, and with a holdoff time of 0 stays asserted while a kind is pending; a
set naming a kind that does not exist is BAD_ARGUMENT (R203, R204).

SET NOTICES writes the three settings of its target together, the start kinds always enabled; the kinds that leave the enable set
leave the pending set, and with none left the line is released; another port's settings are written only when no other port holds
the NOTICE group; a target, a kind or a unit that does not exist is BAD_ARGUMENT (R194, R205). -/
def Obligations.NoticesArePostedClearedAndSet : Prop :=
  (∀ (k : NoticeKind) (s : State),
     let t := post k s
     t = { s with notices := t.notices }
       ∧ ∀ p, (working s = true ∧ (s.settings.notice.get p).enable.getLsbD k.number = true →
             t.notices.get p =
               { pending := (s.notices.get p).pending ||| k.bit, holdoff := (s.notices.get p).holdoff,
                 attention := (s.notices.get p).holdoff.isNone })
           ∧ (working s = false ∨ (s.settings.notice.get p).enable.getLsbD k.number = false →
               t.notices.get p = s.notices.get p))
    ∧ (∀ (p : Port) (args : List Byte) (s : State), Ready p s → args.length = 3 →
         let n := argNumber args 0 3
         let before := (s.notices.get p).pending
         let after := before &&& ~~~BitVec.ofNat 21 n
         let ms := (s.settings.notice.get p).holdoff
         let gives := fun (x : Notices) => exec (.clearNotices p args) s =
           .next (answered p .done (.cleared { before := before, after := after }) s { s with notices := s.notices.set p x })
         (2097152 ≤ n → exec (.clearNotices p args) s = .next (refusedWith p .badArgument s))
           ∧ (n < 2097152 → ms ≠ 0 →
               gives { pending := after, holdoff := some { start := now s, length := ms * 10000 }, attention := false })
           ∧ (n < 2097152 → ms = 0 → gives { pending := after, holdoff := none, attention := decide (after ≠ 0) }))
    ∧ (∀ (p q : Port) (args : List Byte) (s : State), Ready p s → args.length = 8 →
         let target := argNumber args 0 1
         let kinds := argNumber args 1 3
         let units := argNumber args 4 2
         let ms := argNumber args 6 2
         let enable := BitVec.ofNat 21 kinds ||| 7
         let left := (s.notices.get q).pending &&& ~~~((s.settings.notice.get q).enable &&& ~~~enable)
         let setting : NoticeSettings := { enable := enable, interest := BitVec.ofNat 9 units, holdoff := min 1000 ms }
         let kept : Notices :=
           { pending := left, holdoff := (s.notices.get q).holdoff,
             attention := (s.notices.get q).holdoff.isNone && decide (left ≠ 0) }
         let written : State :=
           { s with
             settings := { s.settings with notice := s.settings.notice.set q setting }
             notices := s.notices.set q kept }
         let good := target = portCode (some q) ∧ kinds < 2097152 ∧ units < 512
         (good → (p = q ∨ heldByOther s p .notice = false) →
           exec (.setNotices p args) s = .next (answered p (rangeStatus 0 1000 ms) .empty s written))
           ∧ (good → p ≠ q → heldByOther s p .notice = true →
               exec (.setNotices p args) s = .next (refusedWith p .locked s))
           ∧ (target = 0 ∨ 4 ≤ target ∨ 2097152 ≤ kinds ∨ 512 ≤ units →
               exec (.setNotices p args) s = .next (refusedWith p .badArgument s)))
end

