-- ==== Sys2Proof/Laws/Formats.lean ====
section
/-! SUPPORT. What a free layout keeps: the stated length, every set and stamp in whole bytes, every number whole (R211). -/

namespace Sys2Proof.Machine

set_option Elab.async false

@[simp] theorem bitsOf_length (width n : Nat) : (bitsOf width n).length = width := by simp [bitsOf]

@[simp] theorem wireBytes_length (bits : List Bool) : (wireBytes bits).length = bits.length / 8 := by simp [wireBytes]

@[simp] theorem bytesOf_length (width n : Nat) : (bytesOf width n).length = width := by simp [bytesOf]

/-- A full stamp is 12 bytes (section 11.4). -/
@[simp] theorem FullStamp.bytes_length (x : FullStamp) : x.bytes.length = 12 := by simp [FullStamp.bytes, Stamp.bytes]

@[simp] theorem optStamp_length (x : Option FullStamp) : (optStamp x).length = 12 := by cases x <;> simp [optStamp]

/-- What `putAll` holds: the items and what it put them among. -/
theorem putAll_perm {α : Type} (place : Nat → Nat) (n : Nat) (items xs : List α) :
    (putAll place n items xs).Perm (items ++ xs) := by
  induction items generalizing n xs with
  | nil => simp [putAll]
  | cons item items ih =>
    have h : place n % (xs.length + 1) ≤ xs.length := by have := Nat.mod_lt (place n) (Nat.add_one_pos xs.length); omega
    have h2 := (List.perm_insertIdx item xs h).append_left items
    exact (ih _ _).trans (h2.trans (List.perm_middle))

/-- The bits of spaced fields: those of the fields and the slack. -/
theorem spaced_length (gap : Nat → Nat) (n slack : Nat) (fields : List (List Bool)) :
    (spaced gap n slack fields).length = slack + (fields.map List.length).sum := by
  induction fields generalizing n slack with
  | nil => simp [spaced]
  | cons f fs ih =>
    have h := Nat.mod_lt (gap n) (Nat.add_one_pos slack)
    simp only [spaced, List.length_append, List.length_replicate, ih, List.map_cons, List.sum_cons]
    omega

/-- Each field stands whole among the spaced fields. -/
theorem infix_spaced (gap : Nat → Nat) (n slack : Nat) {fields : List (List Bool)} {f : List Bool} (h : f ∈ fields) :
    f <:+: spaced gap n slack fields := by
  induction fields generalizing n slack with
  | nil => cases h
  | cons g gs ih =>
    simp only [spaced]
    rcases List.mem_cons.1 h with rfl | h
    · exact ⟨_, _, rfl⟩
    · exact (ih _ _ h).trans (List.suffix_append _ _).isInfix

/-- The widths of the numbers, each with its value, are their bits. -/
theorem zipWith_bitsOf_length (widths fields : List Nat) (h : fields.length = widths.length) :
    ((List.zipWith bitsOf widths fields).map List.length).sum = widths.sum := by
  induction widths generalizing fields with
  | nil => simp
  | cons w ws ih =>
    cases fields with
    | nil => simp at h
    | cons v vs =>
      simp only [List.length_cons, Nat.add_right_cancel_iff] at h
      simp only [List.zipWith_cons_cons, List.map_cons, List.sum_cons, bitsOf_length, ih vs h]

/-- A result of free layout has its stated length when its sets, stamps and numbers fit it. -/
theorem layOut_length (layout : OpenLayout) (length : Nat) (blocks : List (List Byte)) (widths fields : List Nat)
    (hf : fields.length = widths.length)
    (hl : 8 * (blocks.map List.length).sum + widths.sum ≤ 8 * length) :
    (layOut layout length blocks widths fields).length = length := by
  have p1 := ((putAll_perm (Config.openOrder layout) 0 (List.zipWith bitsOf widths fields) []).map List.length).sum_nat
  rw [List.append_nil, zipWith_bitsOf_length widths fields hf] at p1
  have p2 := ((putAll_perm (Config.openBlock layout) 0 blocks
    ((wireBytes (spaced (Config.openGap layout) 0 (8 * (length - (blocks.map List.length).sum) - widths.sum)
      (putAll (Config.openOrder layout) 0 (List.zipWith bitsOf widths fields) []))).map fun b => [b])).map List.length).sum_nat
  rw [layOut, List.length_flatten, p2, List.map_append, List.sum_append, List.map_map]
  simp only [Function.comp_def, List.length_singleton, List.map_const', List.sum_replicate, wireBytes_length, spaced_length,
    smul_eq_mul, p1]
  omega

/-- Each set and stamp of a result of free layout stands whole in it. -/
theorem infix_layOut (layout : OpenLayout) (length : Nat) {blocks : List (List Byte)} (widths fields : List Nat)
    {b : List Byte} (h : b ∈ blocks) : b <:+: layOut layout length blocks widths fields :=
  List.infix_of_mem_flatten ((putAll_perm _ _ _ _).mem_iff.2 (List.mem_append_left _ h))

theorem codeWidth_le (c : UncodedChoice) : codeWidth c ≤ 8 := by unfold codeWidth; omega

/-! ### The numbers of each result of free layout have the widths they are laid out with -/

@[simp] theorem optField_length (x : Option Nat) : (optField x).length = 2 := rfl

@[simp] theorem optWidths_length (ws : List Nat) : (optWidths ws).length = ws.length + 1 := rfl

theorem optFields_length {α : Type} (n : Nat) (f : α → List Nat) (h : ∀ a, (f a).length = n) (x : Option α) :
    (optFields n f x).length = n + 1 := by cases x <;> simp [optFields, h]

theorem placed_length {α : Type} (n width : Nat) (f : α → List Nat) (h : ∀ a, (f a).length = width) (xs : List α) :
    (placed n width f xs).length = n * (width + 1) := by
  simp [placed, List.length_flatMap, optFields_length width f h]

theorem placedWidths_length (n : Nat) (ws : List Nat) : (placedWidths n ws).length = n * (ws.length + 1) := by
  simp [placedWidths, List.length_flatMap]

theorem LineSample.fields_length (x : LineSample) : x.fields.length = lineWidths.length := by
  simp only [LineSample.fields, List.length_append, optFields_length 7 TelegramSample.fields fun _ => rfl]
  rfl

theorem InputSample.fields_length (x : InputSample) : x.fields.length = inputWidths.length := rfl

theorem SeekResult.fields_length (x : SeekResult) : x.fields.length = seekWidths.length := rfl

theorem UnitSummary.fields_length (x : Bank UnitSummary 8) :
    (x.cells.flatMap UnitSummary.fields).length = unitsWidths.length := by
  have each : ∀ xs : List UnitSummary, (xs.flatMap UnitSummary.fields).length = 6 * xs.length := by
    intro xs
    simp [List.length_flatMap, UnitSummary.fields, Nat.mul_comm]
  rw [each, x.size]
  rfl

theorem ShiftSample.fields_length (x : ShiftSample) : x.fields.length = shiftWidths.length := by
  have handover : ∀ h : HandoverSample, h.fields.length = 11 := by
    intro h
    have opened : h.handover.openedBy.fields.length = 3 := by cases h.handover.openedBy <;> rfl
    have taken := optFields_length 2 (fun a : Acceptance => [a.crew.toNat, portCode (some a.port)]) fun _ => rfl
    simp [HandoverSample.fields, opened, taken]
  simp only [ShiftSample.fields, List.length_append, optFields_length 11 HandoverSample.fields handover,
    placed_length 6 5 BoundarySample.fields fun _ => rfl, placed_length 16 1 (fun n : BitVec 16 => [n.toNat]) fun _ => rfl]
  rfl

theorem PortsSample.fields_length (x : PortsSample) : x.fields.length = portsWidths.length := rfl

theorem NoticesSample.fields_length (x : NoticesSample) : x.fields.length = noticesWidths.length := rfl

/-! ### The numbers of each result of free layout fit it -/

theorem lineWidths_le : lineWidths.sum ≤ 8 * 50 := by
  have h1 := codeWidth_le .phase
  have h2 := codeWidth_le .sendState
  have h3 := codeWidth_le .receiver
  revert h1 h2 h3
  generalize hw : codeWidth = w
  intro h1 h2 h3
  simp only [lineWidths, hw, optWidths, List.sum_append, List.sum_cons, List.sum_nil, List.sum_replicate, smul_eq_mul]
  omega

theorem inputWidths_le : inputWidths.sum ≤ 8 * (26 - 12) := by
  have h := codeWidth_le .inputState
  revert h
  generalize hw : codeWidth = w
  intro h
  simp only [inputWidths, hw, optWidths, List.sum_append, List.sum_cons, List.sum_nil]
  omega

theorem portsWidths_le : portsWidths.sum ≤ 8 * 15 := by
  have h := codeWidth_le .portState
  have flat : portsWidths = [codeWidth .portState, 1, 1, codeWidth .portState, 1, 1, codeWidth .portState, 1, 1]
      ++ List.replicate 6 2 := rfl
  revert h flat
  generalize codeWidth = w
  intro h flat
  rw [flat]
  simp only [List.sum_append, List.sum_cons, List.sum_nil, List.sum_replicate, smul_eq_mul]
  omega

theorem seekWidths_le : seekWidths.sum ≤ 8 * 7 := by decide

theorem unitsWidths_le : unitsWidths.sum ≤ 8 * 40 := by decide

theorem shiftWidths_le : shiftWidths.sum ≤ 8 * (142 - 24) := by decide

theorem noticesWidths_le : noticesWidths.sum ≤ 8 * (12 - 8) := by decide

/-- The results of free layout have the lengths of section 11.9. -/
theorem openResult_length :
    (∀ x : LineSample, (Result.line x).bytes.length = 50) ∧ (∀ x : InputSample, (Result.input x).bytes.length = 26)
      ∧ (∀ x : SeekResult, (Result.seek x).bytes.length = 7) ∧ (∀ x, (Result.units x).bytes.length = 40)
      ∧ (∀ x : ShiftSample, (Result.shift x).bytes.length = 142)
      ∧ (∀ x : PortsSample, (Result.ports x).bytes.length = 15)
      ∧ ∀ x : NoticesSample, (Result.notices x).bytes.length = 12 := by
  refine ⟨fun x => ?_, fun x => ?_, fun x => ?_, fun x => ?_, fun x => ?_, fun x => ?_, fun x => ?_⟩
  · exact layOut_length _ _ _ _ _ x.fields_length (by simpa using lineWidths_le)
  · exact layOut_length _ _ _ _ _ x.fields_length (by have := inputWidths_le; simp; omega)
  · exact layOut_length _ _ _ _ _ x.fields_length (by simpa using seekWidths_le)
  · exact layOut_length _ _ _ _ _ (UnitSummary.fields_length x) (by simpa using unitsWidths_le)
  · exact layOut_length _ _ _ _ _ x.fields_length (by have := shiftWidths_le; simp [ShiftSample.stamps]; omega)
  · exact layOut_length _ _ _ _ _ x.fields_length (by simpa using portsWidths_le)
  · exact layOut_length _ _ _ _ _ x.fields_length (by have := noticesWidths_le; simp [NoticesSample.sets]; omega)

end Sys2Proof.Machine
end

