-- ==== Sys2Proof/Laws/State.lean ====
section
/-! SUPPORT. Reading after writing, for the banks, the ports and the fields of State. -/

namespace Sys2Proof

/-! ### Banks -/

@[simp] theorem Bank.get_set_same {α : Type} {n : Nat} (b : Bank α n) (i : Fin n) (x : α) : (b.set i x).get i = x := by
  show (b.cells.set i.val x)[i.val]'(by simp [b.size]) = x
  simp

@[simp] theorem Bank.get_set_other {α : Type} {n : Nat} (b : Bank α n) (i j : Fin n) (x : α) (h : i ≠ j) :
    (b.set i x).get j = b.get j := by
  show (b.cells.set i.val x)[j.val]'(by simp [b.size]) = b.cells[j.val]'(by simp [b.size])
  simp [Fin.val_ne_of_ne h]

@[simp] theorem Bank.get_ofFn {α : Type} {n : Nat} (f : Fin n → α) (i : Fin n) : (Bank.ofFn f).get i = f i := by
  show (List.ofFn f)[i.val]'(by simp) = f i
  simp

@[simp] theorem Bank.get_fill {α : Type} (n : Nat) (x : α) (i : Fin n) : (Bank.fill n x).get i = x := by
  show (List.replicate n x)[i.val]'(by simp) = x
  simp

/-- A bank is given by its members. -/
theorem Bank.ext_get {α : Type} {n : Nat} {b c : Bank α n} (h : ∀ i, b.get i = c.get i) : b = c := by
  obtain ⟨l, hl⟩ := b
  obtain ⟨m, hm⟩ := c
  have : l = m := by
    apply List.ext_getElem (by omega)
    intro k h1 h2
    simpa [Bank.get] using h ⟨k, by omega⟩
  subst this
  rfl

@[simp] theorem Bank.set_set {α : Type} {n : Nat} (b : Bank α n) (i : Fin n) (x y : α) : (b.set i x).set i y = b.set i y := by
  simp [Bank.set]

@[simp] theorem Bank.set_get {α : Type} {n : Nat} (b : Bank α n) (i : Fin n) : b.set i (b.get i) = b := by
  apply Bank.ext_get
  intro j
  by_cases h : i = j
  · subst h; simp
  · simp [h]

namespace Machine

/-! ### One thing for each port -/

@[simp] theorem PerPort.get_set_same {α : Type} (x : PerPort α) (p : Port) (v : α) : (x.set p v).get p = v := by
  cases p <;> rfl

@[simp] theorem PerPort.get_set_other {α : Type} (x : PerPort α) (p q : Port) (v : α) (h : p ≠ q) :
    (x.set p v).get q = x.get q := by
  cases p <;> cases q <;> simp_all [PerPort.get, PerPort.set]

@[simp] theorem PerPort.set_set {α : Type} (x : PerPort α) (p : Port) (v w : α) : (x.set p v).set p w = x.set p w := by
  cases p <;> rfl

@[simp] theorem PerPort.set_get {α : Type} (x : PerPort α) (p : Port) : x.set p (x.get p) = x := by
  cases p <;> rfl

/-! ### The four writers of one of several -/

section
variable (s : State) (i : Fin 16) (u : Fin 8) (p : Port) (x : TripInput) (m : MachineUnit) (c : PortCtl) (n : Notices)

@[simp] theorem withInput_clk : (s.withInput i x).clk = s.clk := rfl
@[simp] theorem withInput_mq : (s.withInput i x).mq = s.mq := rfl
@[simp] theorem withInput_tl : (s.withInput i x).tl = s.tl := rfl
@[simp] theorem withInput_inputs : (s.withInput i x).inputs = s.inputs.set i x := rfl
@[simp] theorem withInput_log : (s.withInput i x).log = s.log := rfl
@[simp] theorem withInput_bursts : (s.withInput i x).bursts = s.bursts := rfl
@[simp] theorem withInput_units : (s.withInput i x).units = s.units := rfl
@[simp] theorem withInput_store : (s.withInput i x).store = s.store := rfl
@[simp] theorem withInput_supply : (s.withInput i x).supply = s.supply := rfl
@[simp] theorem withInput_shift : (s.withInput i x).shift = s.shift := rfl
@[simp] theorem withInput_ports : (s.withInput i x).ports = s.ports := rfl
@[simp] theorem withInput_settings : (s.withInput i x).settings = s.settings := rfl
@[simp] theorem withInput_locks : (s.withInput i x).locks = s.locks := rfl
@[simp] theorem withInput_notices : (s.withInput i x).notices = s.notices := rfl
@[simp] theorem withInput_pins : (s.withInput i x).pins = s.pins := rfl
@[simp] theorem withInput_pending : (s.withInput i x).pending = s.pending := rfl
@[simp] theorem withInput_draws : (s.withInput i x).draws = s.draws := rfl

@[simp] theorem withUnit_clk : (s.withUnit u m).clk = s.clk := rfl
@[simp] theorem withUnit_mq : (s.withUnit u m).mq = s.mq := rfl
@[simp] theorem withUnit_tl : (s.withUnit u m).tl = s.tl := rfl
@[simp] theorem withUnit_inputs : (s.withUnit u m).inputs = s.inputs := rfl
@[simp] theorem withUnit_log : (s.withUnit u m).log = s.log := rfl
@[simp] theorem withUnit_bursts : (s.withUnit u m).bursts = s.bursts := rfl
@[simp] theorem withUnit_units : (s.withUnit u m).units = s.units.set u m := rfl
@[simp] theorem withUnit_store : (s.withUnit u m).store = s.store := rfl
@[simp] theorem withUnit_supply : (s.withUnit u m).supply = s.supply := rfl
@[simp] theorem withUnit_shift : (s.withUnit u m).shift = s.shift := rfl
@[simp] theorem withUnit_ports : (s.withUnit u m).ports = s.ports := rfl
@[simp] theorem withUnit_settings : (s.withUnit u m).settings = s.settings := rfl
@[simp] theorem withUnit_locks : (s.withUnit u m).locks = s.locks := rfl
@[simp] theorem withUnit_notices : (s.withUnit u m).notices = s.notices := rfl
@[simp] theorem withUnit_pins : (s.withUnit u m).pins = s.pins := rfl
@[simp] theorem withUnit_pending : (s.withUnit u m).pending = s.pending := rfl
@[simp] theorem withUnit_draws : (s.withUnit u m).draws = s.draws := rfl

@[simp] theorem withPort_clk : (s.withPort p c).clk = s.clk := rfl
@[simp] theorem withPort_mq : (s.withPort p c).mq = s.mq := rfl
@[simp] theorem withPort_tl : (s.withPort p c).tl = s.tl := rfl
@[simp] theorem withPort_inputs : (s.withPort p c).inputs = s.inputs := rfl
@[simp] theorem withPort_log : (s.withPort p c).log = s.log := rfl
@[simp] theorem withPort_bursts : (s.withPort p c).bursts = s.bursts := rfl
@[simp] theorem withPort_units : (s.withPort p c).units = s.units := rfl
@[simp] theorem withPort_store : (s.withPort p c).store = s.store := rfl
@[simp] theorem withPort_supply : (s.withPort p c).supply = s.supply := rfl
@[simp] theorem withPort_shift : (s.withPort p c).shift = s.shift := rfl
@[simp] theorem withPort_ports : (s.withPort p c).ports = s.ports.set p c := rfl
@[simp] theorem withPort_settings : (s.withPort p c).settings = s.settings := rfl
@[simp] theorem withPort_locks : (s.withPort p c).locks = s.locks := rfl
@[simp] theorem withPort_notices : (s.withPort p c).notices = s.notices := rfl
@[simp] theorem withPort_pins : (s.withPort p c).pins = s.pins := rfl
@[simp] theorem withPort_pending : (s.withPort p c).pending = s.pending := rfl
@[simp] theorem withPort_draws : (s.withPort p c).draws = s.draws := rfl

@[simp] theorem withNotices_clk : (s.withNotices p n).clk = s.clk := rfl
@[simp] theorem withNotices_mq : (s.withNotices p n).mq = s.mq := rfl
@[simp] theorem withNotices_tl : (s.withNotices p n).tl = s.tl := rfl
@[simp] theorem withNotices_inputs : (s.withNotices p n).inputs = s.inputs := rfl
@[simp] theorem withNotices_log : (s.withNotices p n).log = s.log := rfl
@[simp] theorem withNotices_bursts : (s.withNotices p n).bursts = s.bursts := rfl
@[simp] theorem withNotices_units : (s.withNotices p n).units = s.units := rfl
@[simp] theorem withNotices_store : (s.withNotices p n).store = s.store := rfl
@[simp] theorem withNotices_supply : (s.withNotices p n).supply = s.supply := rfl
@[simp] theorem withNotices_shift : (s.withNotices p n).shift = s.shift := rfl
@[simp] theorem withNotices_ports : (s.withNotices p n).ports = s.ports := rfl
@[simp] theorem withNotices_settings : (s.withNotices p n).settings = s.settings := rfl
@[simp] theorem withNotices_locks : (s.withNotices p n).locks = s.locks := rfl
@[simp] theorem withNotices_notices : (s.withNotices p n).notices = s.notices.set p n := rfl
@[simp] theorem withNotices_pins : (s.withNotices p n).pins = s.pins := rfl
@[simp] theorem withNotices_pending : (s.withNotices p n).pending = s.pending := rfl
@[simp] theorem withNotices_draws : (s.withNotices p n).draws = s.draws := rfl

end

/-! ### What the readers of State depend on -/

theorem working_congr {s t : State} (h : t.supply = s.supply) : working t = working s := by simp [working, h]

theorem now_congr {s t : State} (h : t.clk = s.clk) : now t = now s := by simp [now, h]

theorem since_congr {s t : State} (h : t.clk = s.clk) (r : Reading) : since t r = since s r := by
  simp [since, now_congr h]

theorem gradeNow_congr {s t : State} (h : t.clk = s.clk) : gradeNow t = gradeNow s := by simp [gradeNow, h]

end Machine

end Sys2Proof
end

