-- ==== Sys2Proof/Laws/Touches.lean ====
section
/-! SUPPORT. What each shared operation can touch: one lemma for each operation, naming the blocks of State outside which
nothing changes. A frame of a command is read off with `Touches.same`. -/

namespace Sys2Proof.Machine

set_option Elab.async false

/-- The blocks of State. -/
inductive Block
  | clk
  | mq
  | tl
  | inputs
  | log
  | bursts
  | units
  | store
  | supply
  | shift
  | ports
  | settings
  | locks
  | notices
  | pins
  | pending
  | draws
deriving DecidableEq, Repr

/-- Block `b` stands the same in `s` and `t`. -/
def Block.Same (s t : State) : Block → Prop
  | .clk => t.clk = s.clk
  | .mq => t.mq = s.mq
  | .tl => t.tl = s.tl
  | .inputs => t.inputs = s.inputs
  | .log => t.log = s.log
  | .bursts => t.bursts = s.bursts
  | .units => t.units = s.units
  | .store => t.store = s.store
  | .supply => t.supply = s.supply
  | .shift => t.shift = s.shift
  | .ports => t.ports = s.ports
  | .settings => t.settings = s.settings
  | .locks => t.locks = s.locks
  | .notices => t.notices = s.notices
  | .pins => t.pins = s.pins
  | .pending => t.pending = s.pending
  | .draws => t.draws = s.draws

/-- From `s` to `t`, no block outside `bs` changes. -/
def Touches (bs : List Block) (s t : State) : Prop := ∀ b, b ∉ bs → b.Same s t

theorem Touches.same {bs : List Block} {s t : State} (h : Touches bs s t) (b : Block) (hb : b ∉ bs := by decide) :
    b.Same s t := h b hb

theorem Touches.refl {bs : List Block} {s : State} : Touches bs s s := fun b _ => by cases b <;> rfl

theorem Block.Same.trans {b : Block} {s t u : State} (h : b.Same s t) (k : b.Same t u) : b.Same s u := by
  cases b <;> exact Eq.trans k h

/-- Every block of the first list stands in the second. -/
def within (a bs : List Block) : Bool := a.all fun b => decide (b ∈ bs)

theorem within_mem {a bs : List Block} (h : within a bs = true) {b : Block} (hb : b ∈ a) : b ∈ bs :=
  of_decide_eq_true (List.all_eq_true.mp h b hb)

/-- An operation with the touches `a`, made after a part with the touches `bs`. -/
theorem Touches.after {a bs : List Block} {s t u : State} (k : Touches a t u) (h : Touches bs s t)
    (ha : within a bs = true := by rfl) : Touches bs s u :=
  fun b hb => (h b hb).trans (k b fun hm => hb (within_mem ha hm))

theorem Touches.within {a bs : List Block} {s t : State} (h : Touches a s t) (ha : within a bs = true := by rfl) :
    Touches bs s t := h.after .refl ha

/-- A list of operations, each with the touches `bs`. -/
theorem Touches.foldl {α : Type} {bs : List Block} {f : State → α → State} (h : ∀ t x, Touches bs t (f t x)) (l : List α)
    (s : State) : Touches bs s (l.foldl f s) := by
  induction l generalizing s with
  | nil => exact .refl
  | cons x l ih => exact fun b hb => (h s x b hb).trans (ih (f s x) b hb)

/-- `s` with the blocks of `t` that the list names. -/
def copies (t : State) (bs : List Block) (s : State) : State where
  clk := bif decide (.clk ∈ bs) then t.clk else s.clk
  mq := bif decide (.mq ∈ bs) then t.mq else s.mq
  tl := bif decide (.tl ∈ bs) then t.tl else s.tl
  inputs := bif decide (.inputs ∈ bs) then t.inputs else s.inputs
  log := bif decide (.log ∈ bs) then t.log else s.log
  bursts := bif decide (.bursts ∈ bs) then t.bursts else s.bursts
  units := bif decide (.units ∈ bs) then t.units else s.units
  store := bif decide (.store ∈ bs) then t.store else s.store
  supply := bif decide (.supply ∈ bs) then t.supply else s.supply
  shift := bif decide (.shift ∈ bs) then t.shift else s.shift
  ports := bif decide (.ports ∈ bs) then t.ports else s.ports
  settings := bif decide (.settings ∈ bs) then t.settings else s.settings
  locks := bif decide (.locks ∈ bs) then t.locks else s.locks
  notices := bif decide (.notices ∈ bs) then t.notices else s.notices
  pins := bif decide (.pins ∈ bs) then t.pins else s.pins
  pending := bif decide (.pending ∈ bs) then t.pending else s.pending
  draws := bif decide (.draws ∈ bs) then t.draws else s.draws

theorem copies_same (t : State) (bs : List Block) (b : Block) (h : b ∉ bs) (s : State) : b.Same s (copies t bs s) := by
  have k : decide (b ∈ bs) = false := decide_eq_false h
  cases b <;> simp only [Block.Same, copies, k, cond_false]

/-- A record update touches the blocks it writes. -/
theorem Touches.write {bs : List Block} {s t : State} (h : copies t bs s = t := by rfl) : Touches bs s t :=
  fun b hb => h ▸ copies_same t bs b hb s

/-! ### Notices -/

theorem postTo_touches (k : NoticeKind) (p : Port) (s : State) : Touches [.notices] s (postTo k p s) := by
  unfold postTo
  split
  · exact .refl
  · split
    · exact .refl
    · exact .write

theorem postWhere_touches (f : Port → Bool) (k : NoticeKind) (s : State) : Touches [.notices] s (postWhere f k s) := by
  have one : ∀ (t : State) (p : Port), Touches [.notices] t (if f p then postTo k p t else t) := by
    intro t p
    split
    · exact postTo_touches k p t
    · exact .refl
  exact (one _ .c).after ((one _ .b).after (one _ .a))

theorem post_touches (k : NoticeKind) (s : State) : Touches [.notices] s (post k s) := postWhere_touches _ k s

theorem startNotices_touches (k : NoticeKind) (s : State) : Touches [.notices] s (startNotices k s) := .write

theorem retainNotices_touches (s : State) : Touches [.notices] s (retainNotices s) := .write

/-! ### Ports and the store -/

theorem answerPort_touches (p : Port) (x : Status) (r : Result) (s : State) :
    Touches [.ports] s (answerPort p x r s) := .write

theorem endTransaction_touches (p : Port) (s : State) : Touches [.ports] s (endTransaction p s) := .write

theorem rebind_touches (x y : SaveBinding) (s : State) : Touches [.ports] s (rebind x y s) := .write

theorem startProgram_touches (s : State) : Touches [.store, .ports] s (startProgram s) := by
  unfold startProgram
  split
  · dsimp only
    split
    · exact (rebind_touches _ _ _).after .write
    · exact .write
  · exact .refl

theorem request_touches (r : RecordId) (s : State) : Touches [.store, .ports] s (request r s) := by
  unfold request
  split
  · exact .refl
  · split
    · exact .refl
    · exact (startProgram_touches _).after .write

theorem reportSave_touches (w : Bool) (s : State) : Touches [.ports] s (reportSave w s) := by
  have one : ∀ (t : State) (p : Port), Touches [.ports] t
      (if (t.ports.get p).binding = some .program then answerPort p .done (.saved w) t else t) := by
    intro t p
    split
    · exact answerPort_touches p .done (.saved w) t
    · exact .refl
  exact (one _ .c).after ((one _ .b).after (one _ .a))

theorem programVerified_touches (p : Program) (s : State) : Touches [.store, .ports] s (programVerified p s) := by
  unfold programVerified
  dsimp only
  refine (startProgram_touches _).after ?_
  split
  · exact (reportSave_touches _ _).after .write
  · exact .write

theorem programFailed_touches (p : Program) (s : State) : Touches [.store, .ports, .notices] s (programFailed p s) := by
  unfold programFailed
  dsimp only
  split
  · refine (startProgram_touches _).after ?_
    split
    · exact (reportSave_touches _ _).after (Touches.after (.write (bs := [.store])) ((post_touches _ _).after .write))
    · exact Touches.after (.write (bs := [.store])) ((post_touches _ _).after .write)
  · refine (startProgram_touches _).after ?_
    split
    · exact (rebind_touches _ _ _).after (Touches.after (.write (bs := [.store])) ((post_touches _ _).after .write))
    · exact Touches.after (.write (bs := [.store])) ((post_touches _ _).after .write)

theorem endProgram_touches (v : Bool) (s : State) : Touches [.store, .ports, .notices] s (endProgram v s) := by
  unfold endProgram
  split
  · exact .refl
  · split
    · exact .refl
    · split
      · exact (programVerified_touches _ _).within
      · exact programFailed_touches _ _

theorem requestChangedUnits_touches (s : State) : Touches [.store, .ports] s (requestChangedUnits s) := by
  refine Touches.foldl (fun t u => ?_) _ _
  split
  · exact request_touches _ _
  · exact .refl

theorem expireInterval_touches (s : State) : Touches [.store, .ports] s (expireInterval s) := by
  unfold expireInterval
  split
  · exact .refl
  · exact Touches.after (.write (bs := [.store])) ((request_touches _ _).after (requestChangedUnits_touches s))

theorem expireHourly_touches (s : State) : Touches [.store, .ports] s (expireHourly s) := by
  unfold expireHourly
  split
  · exact .refl
  · exact Touches.after (.write (bs := [.store])) (request_touches _ _)

theorem tearStore_touches (s : State) : Touches [.store, .supply] s (tearStore s) := .write

theorem repairStore_touches (s : State) : Touches [.store, .ports] s (repairStore s) :=
  Touches.after (.write (bs := [.store])) (Touches.after (.write (bs := [.store]))
    ((request_touches _ _).after ((request_touches _ _).after (requestChangedUnits_touches s))))

/-! ### The Shift Controller -/

theorem ringBell_touches (s : State) : Touches [.shift] s (ringBell s) := .write

theorem openHandoverBy_touches (o : OpenedBy) (e : Option (BitVec 4)) (x : FullStamp) (s : State) :
    Touches [.shift, .notices] s (openHandoverBy o e x s) :=
  (ringBell_touches _).after ((post_touches _ _).after .write)

theorem fireBoundary_touches (k : Nat) (b : Boundary) (d : BitVec 16) (x : FullStamp) (s : State) :
    Touches [.shift, .notices] s (fireBoundary k b d x s) := by
  unfold fireBoundary
  dsimp only
  split
  · exact (openHandoverBy_touches _ _ _ _).after .write
  · exact .write
  · exact .write

theorem checkBoundary_touches (s : State) : Touches [.shift, .notices] s (checkBoundary s) := by
  unfold checkBoundary
  split
  · exact .refl
  · split
    · exact .refl
    · split
      · exact fireBoundary_touches _ _ _ _ _
      · exact .refl

theorem firePassed_touches (xs : List Passed) (s : State) : Touches [.shift, .notices] s (firePassed xs s) := by
  refine Touches.foldl (fun t x => ?_) _ _
  split
  · exact fireBoundary_touches _ _ _ _ _
  · exact .refl

theorem reportStep_touches (x y : StationTime) (s : State) : Touches [.shift, .notices] s (reportStep x y s) := by
  unfold reportStep
  split
  · exact .refl
  · split
    · exact .refl
    · exact firePassed_touches _ _

theorem judgeWindow_touches (s : State) : Touches [.shift, .notices] s (judgeWindow s) := by
  unfold judgeWindow
  split
  · exact .refl
  · exact (ringBell_touches _).after ((post_touches _ _).after .write)

theorem complete_touches (h : Handover) (a : Acceptance) (f : Bool) (s : State) :
    Touches [.shift, .units, .store, .ports, .notices] s (complete h a f s) :=
  (ringBell_touches _).after ((post_touches _ _).after ((request_touches _ _).after ((request_touches _ _).after .write)))

theorem checkCompletion_touches (s : State) :
    Touches [.shift, .units, .store, .ports, .notices] s (checkCompletion s) := by
  unfold checkCompletion
  split
  · exact .refl
  · split
    · split
      · exact complete_touches _ _ _ _
      · exact .refl
    · exact .refl

theorem handHoldCount_touches (n : Nat) (s : State) :
    Touches [.shift, .units, .store, .ports, .notices] s (handHoldCount n s) := by
  unfold handHoldCount
  dsimp only
  split
  · exact (checkCompletion_touches _).after .write
  · exact .write

theorem judgeWorst_touches (s : State) : Touches [.shift] s (judgeWorst s) := .write

theorem warmShift_touches (s : State) : Touches [.shift, .notices] s (warmShift s) := by
  unfold warmShift
  dsimp only
  refine (judgeWorst_touches _).after ((judgeWindow_touches _).after ?_)
  split
  · exact .refl
  · exact reportStep_touches _ _ _

/-! ### The units -/

theorem serviceTest_touches (u : Fin 8) (s : State) : Touches [.units, .notices] s (serviceTest u s) := by
  unfold serviceTest
  dsimp only
  split
  · exact (post_touches _ _).after .write
  · exact .refl

theorem growUnit_touches (s : State) (u : Fin 8) : Touches [.units, .notices] s (growUnit s u) := by
  unfold growUnit
  split
  · dsimp only
    split
    · exact (serviceTest_touches _ _).after .write
    · exact .write
  · exact .refl

theorem countEvent_touches (k : CountKind) (u : Fin 8) (s : State) :
    Touches [.units, .store, .ports] s (countEvent k u s) := (request_touches _ _).after .write

theorem countTransition_touches (u : Fin 8) (l : Option Mode) (m : Mode) (s : State) :
    Touches [.units, .store, .ports, .notices] s (countTransition u l m s) := by
  unfold countTransition
  split <;> first | exact (countEvent_touches _ _ _).within | exact (post_touches _ _).within | exact .refl

theorem faultTrip_touches (u : Fin 8) (s : State) : Touches [.units, .store, .ports, .shift] s (faultTrip u s) := by
  unfold faultTrip
  split
  · exact (countEvent_touches _ _ _).after .write
  · exact .refl

theorem decodeUnit_touches (u : Fin 8) (s : State) : Touches [.units] s (decodeUnit u s) := by
  unfold decodeUnit
  dsimp only
  split
  · exact .refl
  · split
    · exact .write
    · exact .write

theorem settle_touches (u : Fin 8) (s : State) : Touches [.units, .store, .ports, .notices] s (settle u s) := by
  unfold settle
  split
  · exact .refl
  · exact (countTransition_touches _ _ _ _).after .write

theorem expireSettle_touches (u : Fin 8) (s : State) : Touches [.units, .store, .ports, .notices] s (expireSettle u s) := by
  unfold expireSettle
  split
  · exact settle_touches _ _
  · exact .refl

theorem takeMode_touches (u : Fin 8) (s : State) : Touches [.units] s (takeMode u s) := .write

theorem refit_touches (old : BitVec 8) (s : State) (u : Fin 8) : Touches [.units, .notices] s (refit old s u) := by
  unfold refit
  split
  · exact (serviceTest_touches _ _).after .write
  · exact .write
  · exact .refl

theorem warmUnits_touches (s : State) : Touches [.units] s (warmUnits s) := by
  refine Touches.foldl (fun t u => ?_) _ _
  split
  · exact takeMode_touches _ _
  · exact .refl

/-! ### The Burst Table and the Trip Log -/

theorem postBurst_touches (k : NoticeKind) (r : BurstRecord) (s : State) : Touches [.notices] s (postBurst k r s) :=
  postWhere_touches _ _ _

theorem setHoldCount_touches (n : Nat) (s : State) :
    Touches [.bursts, .shift, .units, .store, .ports, .notices] s (setHoldCount n s) := by
  unfold setHoldCount
  split
  · exact .refl
  · exact (handHoldCount_touches _ _).after .write

theorem replaceRecord_touches (x y : BurstRecord) (s : State) :
    Touches [.bursts, .shift, .units, .store, .ports, .notices] s (replaceRecord x y s) :=
  (setHoldCount_touches _ _).after .write

theorem handFault_touches (u : Option (Fin 8)) (s : State) :
    Touches [.units, .store, .ports, .shift] s (handFault u s) := by
  unfold handFault
  split
  · exact .refl
  · exact faultTrip_touches _ _

theorem joinOpen_touches (r : BurstRecord) (a : Assert) (s : State) :
    Touches [.bursts, .shift, .units, .store, .ports, .notices] s (joinOpen r a s) := by
  unfold joinOpen
  extract_lets reopens src joined t
  have h : Touches [.bursts, .shift, .units, .store, .ports, .notices] s t :=
    (handFault_touches _ _).after (replaceRecord_touches r joined s)
  clear_value t
  split
  · exact (postBurst_touches _ _ _).after h
  · exact h

theorem joinOverflow_touches (r : BurstRecord) (a : Assert) (s : State) :
    Touches [.bursts, .shift, .units, .store, .ports, .notices] s (joinOverflow r a s) :=
  (postBurst_touches _ _ _).after ((handFault_touches _ _).after (replaceRecord_touches _ _ _))

theorem openBurst_touches (rs : List BurstRecord) (a : Assert) (s : State) :
    Touches [.bursts, .shift, .units, .store, .ports, .notices] s (openBurst rs a s) :=
  (handFault_touches _ _).after (Touches.after (.write (bs := [.shift])) ((setHoldCount_touches _ _).after .write))

theorem takeAssert_touches (a : Assert) (s : State) :
    Touches [.bursts, .shift, .units, .store, .ports, .notices] s (takeAssert a s).2 := by
  unfold takeAssert
  split
  · exact joinOpen_touches _ _ _
  · split
    · exact openBurst_touches _ _ _
    · split
      · exact joinOverflow_touches _ _ _
      · exact .refl

theorem flagLost_touches (e : LogEntry) (s : State) : Touches [.bursts] s (flagLost e s) := by
  unfold flagLost
  split
  · exact .write
  · exact .refl

theorem moveCursor_touches (n : BitVec 16) (s : State) (p : Port) : Touches [.log, .notices] s (moveCursor n s p) := by
  unfold moveCursor
  split
  · exact (postTo_touches _ _ _).after .write
  · exact .refl

theorem removeOldest_touches (s : State) : Touches [.log, .bursts, .notices] s (removeOldest s) := by
  unfold removeOldest
  split
  · exact .refl
  · split
    · exact .refl
    · exact (moveCursor_touches _ _ _).after ((moveCursor_touches _ _ _).after ((moveCursor_touches _ _ _).after
        ((flagLost_touches _ _).after .write)))

theorem makeEntry_touches (b : EntryBody) (x : FullStamp) (s : State) :
    Touches [.log, .bursts, .notices] s (makeEntry b x s) :=
  Touches.after (.write (bs := [.log])) (removeOldest_touches s)

theorem makeAssert_touches (i : Fin 16) (x : FullStamp) (r : Bool) (s : State) :
    Touches [.log, .bursts, .shift, .units, .store, .ports, .notices] s (makeAssert i x r s) :=
  Touches.after (.write (bs := [.log, .shift])) ((takeAssert_touches _ _).after
    (Touches.after (.write (bs := [.log])) (removeOldest_touches s).within))

theorem closeRecord_touches (r : BurstRecord) (s : State) : Touches [.bursts] s (closeRecord r s) := .write

theorem closeWindow_touches (s : State) : Touches [.bursts, .notices] s (closeWindow s) := by
  unfold closeWindow
  split
  · exact .refl
  · split
    · exact .refl
    · dsimp only
      split
      · exact (closeRecord_touches _ _).after ((postBurst_touches _ _ _).after .write)
      · exact (postBurst_touches _ _ _).after .write

theorem judgeGap_touches (s : State) : Touches [.bursts] s (judgeGap s) := by
  unfold judgeGap
  split
  · exact .refl
  · split
    · exact closeRecord_touches _ _
    · exact .refl

theorem retainBursts_touches (s : State) : Touches [.bursts] s (retainBursts s) := by
  unfold retainBursts
  split
  · exact .refl
  · exact closeRecord_touches _ _

/-! ### The sending side of the line -/

theorem followLine_touches (was : Level) (s : State) : Touches [.tl] s (followLine was s) := by
  unfold followLine
  split
  · exact .write
  · exact .write
  · exact .refl

theorem boundaryLine_touches (s : State) : Touches [.tl] s (boundaryLine s) := by
  have h : Touches [.tl] s (takeOver s) := by
    unfold takeOver
    split
    · exact .write
    · exact .refl
  unfold boundaryLine decideSend
  split
  · exact h
  · split
    · exact Touches.after (.write (bs := [.tl])) h
    · exact Touches.after (.write (bs := [.tl])) h

theorem completeSend_touches (s : State) : Touches [.tl] s (completeSend s) := by
  unfold completeSend
  split
  · exact .refl
  · exact .write

theorem yieldStandby_touches (s : State) : Touches [.tl] s (yieldStandby s) := by
  unfold yieldStandby
  split
  · exact .write
  · exact .refl

theorem giveWay_touches (s : State) : Touches [.tl] s (giveWay s) :=
  (yieldStandby_touches _).after ((followLine_touches _ _).after .write)

theorem loseArbitration_touches (s : State) : Touches [.tl] s (loseArbitration s) := by
  unfold loseArbitration
  split
  · exact .refl
  · exact (giveWay_touches _).after .write

theorem clashId_touches (s : State) : Touches [.tl, .notices] s (clashId s) := by
  unfold clashId
  split
  · exact .refl
  · exact (post_touches _ _).after ((giveWay_touches _).after .write)

theorem failSend_touches (s : State) : Touches [.tl] s (failSend s) := by
  unfold failSend
  split
  · exact .refl
  · exact (yieldStandby_touches _).after ((followLine_touches _ _).after .write)

/-! ### The Time Base -/

theorem enterState_touches (x : ClockState) (s : State) : Touches [.clk, .shift, .notices] s (enterState x s) := by
  unfold enterState
  split
  · exact .refl
  · extract_lets g src t
    have h : Touches [.clk, .shift, .notices] s t := .write
    refine (post_touches _ _).after ?_
    clear_value t
    split
    · exact (judgeWorst_touches _).after h
    · exact h

theorem enterHoldover_touches (s : State) : Touches [.clk, .shift, .notices] s (enterHoldover s) :=
  (enterState_touches _ _).after .write

theorem marksStopped_touches (s : State) : Touches [.clk, .shift, .notices] s (marksStopped s) := by
  unfold marksStopped
  split <;> first | exact enterHoldover_touches s | exact .refl | exact .write

theorem expireSilence_touches (s : State) : Touches [.clk, .shift, .notices] s (expireSilence s) := by
  unfold expireSilence
  split
  · exact .refl
  · exact (marksStopped_touches _).after .write

theorem growHoldover_touches (s : State) : Touches [.clk, .shift, .notices] s (growHoldover s) := by
  unfold growHoldover
  split
  · exact .refl
  · dsimp only
    split
    · exact (enterState_touches _ _).after .write
    · exact .write

theorem sourceChanged_touches (s : State) : Touches [.clk, .shift, .notices] s (sourceChanged s) := by
  unfold sourceChanged
  dsimp only
  split
  · exact (enterState_touches _ _).after .write
  · exact (enterState_touches _ _).after .write
  · split
    · exact .write
    · exact .write
  · exact .write

theorem recordStep_touches (x : Option StepSize) (f : Bool) (y : StepSource) (s : State) :
    Touches [.log, .bursts, .notices, .store, .ports] s (recordStep x f y s) :=
  (request_touches _ _).after ((post_touches _ _).after (makeEntry_touches _ _ _).within)

theorem offerToSlot_touches (d : BitVec 16) (n : Nat) (w : Setter) (s : State) :
    Touches [.clk, .notices] s (offerToSlot d n w s) := by
  unfold offerToSlot
  dsimp only
  split
  · exact (postWhere_touches _ _ _).after .write
  · exact .write

theorem leaveUnset_touches (s : State) : Touches [.clk, .shift, .notices] s (leaveUnset s) := by
  unfold leaveUnset
  split
  · exact enterState_touches _ _
  · exact enterState_touches _ _
  · exact (enterState_touches _ _).after .write

theorem dateStep_touches (d : PendingDate) (s : State) :
    Touches [.clk, .log, .bursts, .shift, .store, .ports, .notices] s (dateStep d s) := by
  unfold dateStep
  dsimp only
  split
  · exact (leaveUnset_touches _).after ((recordStep_touches _ _ _ _).after (Touches.write (bs := [.clk])).within)
  · exact (reportStep_touches _ _ _).after ((recordStep_touches _ _ _ _).after (Touches.write (bs := [.clk])).within)

theorem applyDate_touches (s : State) :
    Touches [.clk, .log, .bursts, .shift, .store, .ports, .notices] s (applyDate s) := by
  unfold applyDate
  split
  · exact .refl
  · dsimp only
    split
    · split
      · exact (leaveUnset_touches _).after .write
      · exact .write
    · exact (dateStep_touches _ _).after .write

theorem startPulse_touches (s : State) : Touches [.clk] s (startPulse s) := by
  unfold startPulse
  split
  · exact .refl
  · exact .write

theorem takeBoundary_touches (s : State) :
    Touches [.clk, .tl, .log, .bursts, .shift, .store, .ports, .notices] s (takeBoundary s) := by
  unfold takeBoundary
  split
  · exact .refl
  · exact (checkBoundary_touches _).after ((boundaryLine_touches _).after ((startPulse_touches _).after
      (applyDate_touches s).within))

theorem stationBoundary_touches (s : State) :
    Touches [.clk, .tl, .log, .bursts, .shift, .store, .ports, .notices] s (stationBoundary s) := by
  unfold stationBoundary
  split
  · exact .refl
  · exact (takeBoundary_touches _).after .write

theorem moveTo_touches (x : ClockState) (s : State) : Touches [.clk, .shift, .notices] s (moveTo x s) := by
  unfold moveTo
  split
  · split <;> exact .write
  · exact enterState_touches _ _

theorem stepAtMark_touches (m : HandedMark) (p : Int) (s : State) :
    Touches [.clk, .mq, .tl, .log, .bursts, .shift, .store, .ports, .notices] s (stepAtMark m p s) := by
  unfold stepAtMark
  dsimp only
  have h : ∀ t : State,
      Touches [.clk, .shift, .notices] t
        (if disciplineState t.clk = .acquiring then t else moveTo .tracking t) := by
    intro t
    split
    · exact .refl
    · exact moveTo_touches _ _
  split
  · exact (takeBoundary_touches _).after ((reportStep_touches _ _ _).after ((recordStep_touches _ _ _ _).after
      ((h _).after (Touches.write (bs := [.clk, .mq, .tl])).within)))
  · exact (reportStep_touches _ _ _).after ((recordStep_touches _ _ _ _).after
      ((h _).after (Touches.write (bs := [.clk, .mq, .tl])).within))

theorem slewMoves_touches (m : HandedMark) (p : Int) (s : State) :
    Touches [.clk, .shift, .notices] s (slewMoves m p s) := by
  unfold slewMoves
  dsimp only
  split
  · split
    · exact (moveTo_touches _ _).after .write
    · exact .write
  · split
    · split
      · exact (moveTo_touches _ _).after .write
      · exact .write
    · exact .write
  · split
    · exact (moveTo_touches _ _).after .write
    · exact .refl
  · exact .refl

theorem markWithoutStep_touches (m : HandedMark) (a b : Bool) (d : Int) (c : Option Candidate) (s : State) :
    Touches [.clk, .shift, .notices] s (markWithoutStep m a b d c s) := by
  unfold markWithoutStep markMoves
  dsimp only
  split
  · exact (moveTo_touches _ _).after .write
  · split
    · exact (slewMoves_touches _ _ _).after .write
    · exact .write

theorem processMark_touches (m : HandedMark) (s : State) :
    Touches [.clk, .mq, .tl, .log, .bursts, .shift, .store, .ports, .notices] s (processMark m s) := by
  unfold processMark
  extract_lets p acquisition t trim verdict
  have h : Touches [.clk] s t := by
    show Touches [.clk] s (if acquisition = true then { s with clk := s.clk.clearHistory } else s)
    split
    · exact .write
    · exact .refl
  clear_value t verdict trim acquisition
  split
  · split
    · exact (stepAtMark_touches _ _ _).after (Touches.after (.write (bs := [.clk])) h.within)
    · exact (markWithoutStep_touches _ _ _ _ _ _).after h.within
  · exact (markWithoutStep_touches _ _ _ _ _ _).after h.within

theorem retainClock_touches (s : State) : Touches [.clk, .shift, .notices] s (retainClock s) :=
  Touches.after (.write (bs := [.clk])) (marksStopped_touches s)

/-! ### The Mark Qualifier -/

theorem evaluateSource_touches (s : State) : Touches [.clk, .mq, .shift, .notices] s (evaluateSource s) := by
  unfold evaluateSource
  split
  · exact .refl
  · exact Touches.after (.write (bs := [.mq])) ((sourceChanged_touches _).after .write)

theorem expireFibrePresence_touches (s : State) : Touches [.clk, .mq, .shift, .notices] s (expireFibrePresence s) := by
  unfold expireFibrePresence
  split
  · exact .refl
  · exact (evaluateSource_touches _).after .write

theorem expirePeerPresence_touches (s : State) : Touches [.clk, .mq, .shift, .notices] s (expirePeerPresence s) := by
  unfold expirePeerPresence
  split
  · exact .refl
  · exact (evaluateSource_touches _).after .write

theorem addFault_touches (s : State) : Touches [.clk, .mq, .shift, .notices] s (addFault s) := by
  unfold addFault
  split
  · exact .write
  · exact (evaluateSource_touches _).after ((post_touches _ _).after .write)

theorem settleRecogniser_touches (s : State) : Touches [.mq] s (settleRecogniser s) := by
  unfold settleRecogniser
  split
  · exact .write
  · exact .refl

theorem discardPattern_touches (s : State) : Touches [.clk, .mq, .shift, .notices] s (discardPattern s) :=
  (settleRecogniser_touches _).after ((addFault_touches _).after .write)

theorem expirePattern_touches (s : State) : Touches [.clk, .mq, .shift, .notices] s (expirePattern s) := by
  unfold expirePattern
  split
  · exact discardPattern_touches s
  · exact .refl

theorem handMark_touches (f : Nat) (x : Source) (n : Option Nat) (s : State) :
    Touches [.clk, .mq, .tl, .log, .bursts, .shift, .store, .ports, .notices] s (handMark f x n s) :=
  (processMark_touches _ _).after .write

theorem acceptFibre_touches (x : Pattern) (n : Option Nat) (s : State) :
    Touches [.clk, .mq, .tl, .log, .bursts, .shift, .store, .ports, .notices] s (acceptFibre x n s) :=
  (handMark_touches _ _ _ _).after ((evaluateSource_touches _).after .write)

theorem judgeFibre_touches (x : Pattern) (s : State) :
    Touches [.clk, .mq, .tl, .log, .bursts, .shift, .store, .ports, .notices] s (judgeFibre x s) := by
  unfold judgeFibre
  split
  · exact .refl
  · split
    · exact acceptFibre_touches _ _ _
    · exact acceptFibre_touches _ _ _
    · unfold fibreStray
      split
      · exact acceptFibre_touches _ _ _
      · exact (addFault_touches _).after .write

theorem completePattern_touches (s : State) :
    Touches [.clk, .mq, .tl, .log, .bursts, .shift, .store, .ports, .notices] s (completePattern s) := by
  unfold completePattern
  split
  · exact .refl
  · split
    · exact .refl
    · exact (judgeFibre_touches _ _).after .write

theorem phaseEdge_touches (e : FibreEdge) (l : Level) (s : State) :
    Touches [.clk, .mq, .shift, .notices] s (phaseEdge e l s) := by
  unfold phaseEdge
  dsimp only
  split
  · exact .write
  · exact .write
  · split
    · exact .write
    · exact discardPattern_touches s
  · split
    · exact .write
    · exact discardPattern_touches s
  · exact discardPattern_touches s
  · exact .refl

theorem catchUp_touches (s : State) :
    Touches [.clk, .mq, .tl, .log, .bursts, .shift, .store, .ports, .notices] s (catchUp s) := by
  unfold catchUp
  have h := settleRecogniser_touches s
  generalize settleRecogniser s = t at h
  dsimp only
  split
  · exact (completePattern_touches _).after h.within
  · split
    · exact (discardPattern_touches _).after h.within
    · exact h.within

theorem standFibre_touches (s : State) :
    Touches [.clk, .mq, .tl, .log, .bursts, .shift, .store, .ports, .notices] s (standFibre s) := by
  unfold standFibre
  have h := catchUp_touches s
  generalize catchUp s = t at h
  dsimp only
  split
  · exact .refl
  · split
    · exact h
    · exact (phaseEdge_touches _ _ _).after (Touches.after (.write (bs := [.mq])) h)

theorem moveFibre_touches (l : Level) (s : State) :
    Touches [.clk, .mq, .tl, .log, .bursts, .shift, .store, .ports, .notices, .pins] s (moveFibre l s) := by
  unfold moveFibre
  have h := (catchUp_touches _).after (standFibre_touches s)
  generalize catchUp (standFibre s) = t at h
  dsimp only
  split
  · exact .refl
  · split
    · exact .write
    · exact Touches.after (.write (bs := [.mq, .pins])) h.within

theorem fibreEdge_touches (c : FibreChange) (s : State) :
    Touches [.clk, .mq, .tl, .log, .bursts, .shift, .store, .ports, .notices, .pins] s (fibreEdge c s) := by
  unfold fibreEdge
  split
  · exact moveFibre_touches _ _
  · exact (standFibre_touches s).within

theorem judgeLine_touches (c : StartCapture) (s : State) :
    Touches [.clk, .mq, .tl, .log, .bursts, .shift, .store, .ports, .notices] s (judgeLine c s) := by
  unfold judgeLine
  split
  · exact .refl
  · split
    · exact (handMark_touches _ _ _ _).after .write
    · exact (handMark_touches _ _ _ _).after .write
    · exact .write

theorem peerMark_touches (i : BitVec 3) (g : Grade) (c : StartCapture) (s : State) :
    Touches [.clk, .mq, .tl, .log, .bursts, .shift, .store, .ports, .notices] s (peerMark i g c s) := by
  unfold peerMark
  split
  · exact .refl
  · dsimp only
    split
    · exact .write
    · split
      · exact (judgeLine_touches _ _).after ((evaluateSource_touches _).after .write)
      · exact (evaluateSource_touches _).after .write

/-! ### The receiving side of the line -/

theorem settleReceiver_touches (s : State) : Touches [.tl] s (settleReceiver s) := by
  unfold settleReceiver
  split
  · exact .write
  · exact .refl

theorem fallLine_touches (s : State) : Touches [.tl, .pins] s (fallLine s) := by
  unfold fallLine
  split
  · exact .refl
  · split
    · exact .write
    · dsimp only
      split
      · exact Touches.after (.write (bs := [.tl])) ((followLine_touches _ _).after
          (Touches.after (.write (bs := [.pins])) (settleReceiver_touches s).within))
      · exact (followLine_touches _ _).after (Touches.after (.write (bs := [.pins])) (settleReceiver_touches s).within)

theorem raiseLine_touches (s : State) : Touches [.tl, .pins] s (raiseLine s) := by
  unfold raiseLine
  split
  · exact .refl
  · dsimp only
    split
    · exact .write
    · exact (settleReceiver_touches _).after ((followLine_touches _ _).after .write)

theorem breakStart_touches (s : State) : Touches [.tl] s (breakStart s) := by
  unfold breakStart
  split
  · exact .refl
  · exact .write

theorem crossCheck_touches (t : Telegram) (c : StartCapture) (s : State) :
    Touches [.tl, .notices] s (crossCheck t c s) := by
  have h : Touches [.tl, .notices] s (countDisagreement s) := by
    unfold countDisagreement
    extract_lets tl counts t old
    have ht : Touches [.tl, .notices] s t := .write
    clear_value t old
    split
    · exact (post_touches _ _).after (Touches.after (.write (bs := [.tl])) ht)
    · exact ht
  unfold crossCheck
  split
  · exact .refl
  · split
    · exact h
    · exact .refl

theorem offerLineDate_touches (t : Telegram) (c : StartCapture) (s : State) :
    Touches [.clk, .notices] s (offerLineDate t c s) := by
  unfold offerLineDate
  split
  · exact offerToSlot_touches _ _ _ _
  · exact .refl

theorem takeTelegram_touches (t : Telegram) (c : StartCapture) (s : State) :
    Touches [.clk, .mq, .tl, .log, .bursts, .shift, .store, .ports, .notices] s (takeTelegram t c s) := by
  have h : Touches [.tl, .notices] s (judgeSender t (recordTelegram t c s)) := by
    unfold judgeSender
    split
    · exact (post_touches _ _).after .write
    · exact .write
  have y : ∀ u : State, Touches [.tl] u (yieldToPeer c u) := by
    intro u
    unfold yieldToPeer
    split
    · exact yieldStandby_touches u
    · exact .refl
  exact (y _).after ((offerLineDate_touches _ _ _).after ((crossCheck_touches _ _ _).after
    ((peerMark_touches _ _ _ _).after h.within)))

theorem receiveTelegram_touches (bits : List Bool) (s : State) :
    Touches [.clk, .mq, .tl, .log, .bursts, .shift, .store, .ports, .notices] s (receiveTelegram bits s) := by
  have h : Touches [.tl] s (closeReception s) := .write
  unfold receiveTelegram
  split
  · exact .refl
  split
  · exact .refl
  · split
    · exact Touches.after (.write (bs := [.tl])) h.within
    · exact (takeTelegram_touches _ _ _).after h.within

/-! ### The Trip Input Unit -/

theorem scoreInput_touches (i : Fin 16) (n : Nat) (x : InputState) (s : State) :
    Touches [.inputs, .log, .bursts, .notices] s (scoreInput i n x s) := by
  unfold scoreInput
  dsimp only
  split
  · exact (post_touches _ _).after ((makeEntry_touches _ _ _).after (Touches.write (bs := [.inputs])).within)
  · exact .write

theorem leadingEdge_touches (i : Fin 16) (s : State) : Touches [.inputs, .pins] s (leadingEdge i s) := by
  have h : ∀ t : State, Touches [.inputs] t (takeLeading i t) := by
    intro t
    unfold takeLeading
    split <;> exact .write
  unfold leadingEdge
  split
  · exact .refl
  · dsimp only
    split
    · exact (h _).after .write
    · exact .write

theorem trailingEdge_touches (i : Fin 16) (s : State) :
    Touches [.inputs, .log, .bursts, .notices, .pins] s (trailingEdge i s) := by
  have h : ∀ t : State, Touches [.inputs, .log, .bursts, .notices] t (takeTrailing i t) := by
    intro t
    unfold takeTrailing
    split <;> first | exact .write | exact .refl | exact scoreInput_touches _ _ _ _
  unfold trailingEdge
  split
  · exact .refl
  · dsimp only
    split
    · exact (h _).after .write
    · exact .write

theorem qualifyAssert_touches (i : Fin 16) (s : State) :
    Touches [.inputs, .log, .bursts, .shift, .units, .store, .ports, .notices] s (qualifyAssert i s) := by
  unfold qualifyAssert
  split
  · exact .refl
  · dsimp only
    exact (scoreInput_touches _ _ _ _).after (Touches.after (.write (bs := [.inputs])) (makeAssert_touches _ _ _ _).within)

theorem qualifyRelease_touches (i : Fin 16) (s : State) :
    Touches [.inputs, .log, .bursts, .notices] s (qualifyRelease i s) := by
  unfold qualifyRelease
  split
  · exact .refl
  · dsimp only
    split
    · exact Touches.after (.write (bs := [.inputs])) (makeEntry_touches _ _ _).within
    · exact .write

/-! ### Supply loss and the starts -/

theorem stopPorts_touches (s : State) : Touches [.ports] s (stopPorts s) := .write

theorem retainShift_touches (s : State) : Touches [.shift] s (retainShift s) := .write

theorem retainUnits_touches (s : State) : Touches [.units] s (retainUnits s) := .write

theorem retainInputs_touches (s : State) : Touches [.inputs] s (retainInputs s) := .write

theorem retainLine_touches (s : State) : Touches [.tl] s (retainLine s) := .write

theorem retainMarks_touches (s : State) : Touches [.mq] s (retainMarks s) := .write

theorem retainBlocks_touches (s : State) :
    Touches [.clk, .mq, .tl, .inputs, .bursts, .units, .store, .supply, .shift, .ports, .notices] s
      (retainBlocks s) :=
  (stopPorts_touches _).after ((retainNotices_touches _).after ((retainShift_touches _).after
    ((retainUnits_touches _).after ((retainBursts_touches _).after ((retainInputs_touches _).after
      ((retainLine_touches _).after ((retainMarks_touches _).after
        ((retainClock_touches _).after (tearStore_touches s).within))))))))

theorem stopPart_keeps (s : State) :
    (stopPart s).pins = s.pins ∧ (stopPart s).pending = s.pending ∧ (stopPart s).draws = s.draws := ⟨rfl, rfl, rfl⟩

theorem moveSupply_touches (b : SupplyBand) (s : State) : Touches [.pins, .notices] s (moveSupply b s) := .write

/-- A part that has not stopped moves its supply pin alone. -/
theorem moveSupply_powered (b : SupplyBand) {s : State} (h : s.supply.stopped = false) :
    moveSupply b s = { s with pins := { s.pins with supply := b } } := by
  simp [moveSupply, h]

theorem freeLocks_touches (s : State) : Touches [.locks] s (freeLocks s) := .write

theorem warmInputs_touches (s : State) : Touches [.inputs] s (warmInputs s) := .write

theorem warmLine_touches (s : State) : Touches [.tl] s (warmLine s) := .write

theorem warmBlocks_touches (s : State) :
    Touches [.clk, .mq, .tl, .inputs, .units, .store, .shift, .ports, .locks, .notices] s (warmBlocks s) :=
  (freeLocks_touches _).after ((stopPorts_touches _).after ((repairStore_touches _).after ((warmShift_touches _).after
    ((warmUnits_touches _).after ((warmInputs_touches _).after ((warmLine_touches _).after
      ((evaluateSource_touches _).after (Touches.write (bs := [.clk])).within)))))))

end Sys2Proof.Machine
end

