-- ==== Sys2Proof/Laws/Frames.lean ====
section
/-! SUPPORT. What becomes of a frame at a ready port: the judging of R183, R184 and R188, once for every command. -/

namespace Sys2Proof.Machine

set_option Elab.async false

theorem working_endTransaction (p : Port) (s : State) : working (endTransaction p s) = working s := rfl

/-- The port that has ended its transaction is otherwise as it was. -/
theorem endTransaction_port (p : Port) (s : State) :
    (endTransaction p s).ports.get p = { s.ports.get p with transaction := none } := by
  simp [endTransaction]

/-- A ready port's frame is taken by what stands behind it (R182, R184). -/
theorem atRise_ready {p : Port} {s : State} (h : Ready p s) (take : State → State) :
    atRise p take s = take (endTransaction p s) := by
  obtain ⟨h1, h2, h3⟩ := h
  simp [atRise, h1, working_endTransaction, h3, endTransaction_port, h2]

/-- An answer made at a port whose transaction has ended is the answer of Safety (R184, R186, R187). -/
theorem answerPort_ended {p : Port} (x : Status) (r : Result) {s t : State}
    (h : t.ports.get p = s.ports.get p) : answerPort p x r (endTransaction p t) = answered p x r s t := by
  simp [answerPort, answered, answeredPort, endTransaction, State.withPort, h]

/-- A ready port's frame of the command's length is carried out: when its block makes of the state without the transaction
the state `t` without the transaction, `t` stands with the answer (R184, R188). -/
theorem carryOut_ready {p : Port} {args : List Byte} {good : Bool} {body : State → Reply} {s t : State} {x : Status}
    {r : Result} (h : Ready p s) (hl : args.length ≤ 60) (hg : good = true)
    (hb : body (endTransaction p s) = { state := endTransaction p t, status := x, result := r })
    (ht : t.ports.get p = s.ports.get p) : carryOut p args good body s = answered p x r s t := by
  have hn : ¬ longestFrame < args.length := by simp only [longestFrame]; omega
  rw [carryOut, atRise_ready h]
  simp only [hn, hg, if_false, hb, Bool.true_eq_false]
  exact answerPort_ended x r ht

/-- A ready port's frame of the command's length that its block refuses (R188). -/
theorem carryOut_refused {p : Port} {args : List Byte} {good : Bool} {body : State → Reply} {s : State} {x : Status}
    (h : Ready p s) (hl : args.length ≤ 60) (hg : good = true)
    (hb : body (endTransaction p s) = refuse x (endTransaction p s)) : carryOut p args good body s = refusedWith p x s :=
  carryOut_ready h hl hg hb rfl

/-- A command of a group, at a ready port (R188, R194): its block judges the lock, then does `inner`. -/
theorem carryOut_ofGroup {p : Port} {g : Group} {args : List Byte} {good : Bool} {body inner : State → Reply} {s t : State}
    {x : Status} (h : Ready p s) (hl : args.length ≤ 60) (hg : good = true)
    (hb : body (endTransaction p s) = unlessLocked p g inner (endTransaction p s))
    (hi : inner (endTransaction p s) = { state := endTransaction p t, status := x })
    (ht : t.ports.get p = s.ports.get p) : carryOut p args good body s = ofGroup p g x s t := by
  unfold ofGroup
  have hh : heldByOther (endTransaction p s) p g = heldByOther s p g := rfl
  split
  next hk => exact carryOut_refused h hl hg (by simp [hb, unlessLocked, hh, hk])
  next hk => exact carryOut_ready h hl hg (by simp [hb, unlessLocked, hh, hk, hi]) ht

end Sys2Proof.Machine
end

