-- ==== Sys2Proof/Laws/Line.lean ====
section
/-! SUPPORT. The line's level and the count that follows it: what they depend on, and all that following a level can do. -/

namespace Sys2Proof.Machine

/-! ### The level (R45) -/

@[simp] theorem sendingNow_idle (s : State) (h : s.tl.sendState = .idle) : sendingNow s = none := by simp [sendingNow, h]

@[simp] theorem sendingNow_retain (s : State) (h : working s = false) : sendingNow s = none := by simp [sendingNow, h]

@[simp] theorem partPulls_of_none (s : State) (h : sendingNow s = none) : partPulls s = false := by simp [partPulls, h]

/-- Where the part sends nothing, the level is the one the other parties leave. -/
@[simp] theorem lineLevel_of_none (s : State) (h : sendingNow s = none) : lineLevel s = s.pins.timeLine := by
  simp [lineLevel, h]

/-- A low line of the other parties is low whatever the part does. -/
@[simp] theorem lineLevel_of_low (s : State) (h : s.pins.timeLine = .low) : lineLevel s = .low := by simp [lineLevel, h]

/-- Whether the part sends depends on its supply state, its send state, its telegram and its capture alone. -/
theorem sendingNow_congr (s t : State) (hs : s.supply = t.supply) (ht : s.tl.sendState = t.tl.sendState)
    (ho : s.tl.outgoing = t.tl.outgoing) (hc : s.tl.capture = t.tl.capture) : sendingNow s = sendingNow t := by
  simp [sendingNow, working, hs, ht, ho, hc]

/-- The level depends on that, on the elapsed base and on what the other parties leave. -/
theorem lineLevel_congr (s t : State) (hn : now s = now t) (hp : s.pins.timeLine = t.pins.timeLine)
    (h : sendingNow s = sendingNow t) : lineLevel s = lineLevel t := by
  have pulls : partPulls s = partPulls t := by
    unfold partPulls
    rw [h]
    cases sendingNow t with
    | none => rfl
    | some x => simp [bitNow, since, hn]
  simp [lineLevel, pulls, hp]

/-! ### The count that follows the level (R45) -/

@[simp] theorem followLine_same (s : State) : followLine (lineLevel s) s = s := by
  unfold followLine
  cases h : lineLevel s <;> rfl

/-- Following the line moves the count and the moment of the rise alone. -/
theorem followLine_eq (was : Level) (s : State) :
    followLine was s = { s with tl := { s.tl with
      freeCount := if was = lineLevel s then s.tl.freeCount else 0
      highSince := if was = lineLevel s then s.tl.highSince else if lineLevel s = .high then some (now s) else none } } := by
  unfold followLine
  cases was <;> cases h : lineLevel s <;> rfl

/-- Following the line moves no level. -/
@[simp] theorem lineLevel_followLine (was : Level) (s : State) : lineLevel (followLine was s) = lineLevel s := by
  rw [followLine_eq]
  rfl

end Sys2Proof.Machine
end

