-- ==== Sys2Proof/Tests/Slice0.lean ====
section
/-! SUPPORT. The tests: ill-formed commands refused, worked examples of the manual taken one step at a time, and for every
statement about a premise a state and operands that meet it. -/

namespace Sys2Proof.Machine.Tests

set_option Elab.async false

/-! ### Helpers -/

/-- The state after a command; every command has one. -/
def after (c : Instr) (s : State) : State :=
  match exec c s with
  | .next t => t
  | .fault _ => s
  | .refused _ => s

/-- A frame is about to end at port `p`. -/
def framed (p : Port) (s : State) : State := s.withPort p { s.ports.get p with transaction := some { counts := true } }

/-- Right after reset, a frame about to end at port A. -/
def ready : State := framed .a .reset

/-- The status of the answer that a port holds. -/
def statusAt (p : Port) (s : State) : Option Status := (s.ports.get p).answer.map fun a => a.status

/-- The elapsed base moved to a reading of `k` whole seconds. -/
def atSecond (k : Nat) (s : State) : State := { s with clk := { s.clk with elapsedSeconds := BitVec.ofNat 32 k } }

/-- A clock at day 812, second 30,610, epoch 17. -/
def clocked (x : ClockState) (s : State) : State :=
  { s with clk := { s.clk with
      state := x, time := ⟨812, 30610, 420000⟩, epoch := 17, u := 3850, window := if x = .holdover then [] else [3850],
      growth := if x = .holdover then some ⟨0, 100000000⟩ else none } }

/-- Ticks counted within the present elapsed second. -/
def atTick (k : Nat) (s : State) : State := { s with clk := { s.clk with elapsedTicks := k } }

/-! ### Well-formedness -/

theorem test_wf_args_fit : (Instr.setDate .a (List.replicate 60 0)).wellFormed = true := by decide
theorem test_wf_args_too_long : (Instr.setDate .a (List.replicate 61 0)).wellFormed = false := by decide
theorem test_wf_whole_frame_is_not_broken : (Instr.brokenFrame .a 16 [0x10, 0]).wellFormed = false := by decide
theorem test_wf_broken_mid_byte : (Instr.brokenFrame .a 17 [0x10, 0, 0x80]).wellFormed = true := by decide
theorem test_wf_broken_bytes_match_edges : (Instr.brokenFrame .a 17 [0x10, 0]).wellFormed = false := by decide
theorem test_wf_fetch_is_not_broken : (Instr.brokenFrame .a 17 [0x01, 0, 0x80]).wellFormed = false := by decide
theorem test_wf_telegram_has_56_bits : (Instr.telegramJudged (List.replicate 55 true)).wellFormed = false := by decide
theorem test_wf_known_code : (Instr.unknownCommand .a 0x6A []).wellFormed = false := by decide
theorem test_wf_unknown_code : (Instr.unknownCommand .a 0x6B []).wellFormed = true := by decide
theorem test_wf_unknown_too_long : (Instr.unknownCommand .a 0x6B (List.replicate 61 0)).wellFormed = false := by decide

/-! ### No row of the table has bits -/

theorem test_no_word_spells_a_command : decodeTableWord 8 0 = none := rfl

/-! ### The Time Base: worked discipline and the step after an outage (sections 1.4 and 1.5) -/

/-- The clock before mark 1 of the worked discipline. -/
def fast : State := { State.reset with clk := { TimeBase.reset with state := .free } }

/-- The clock before mark 2 of the worked discipline. -/
def fast2 : State :=
  { State.reset with clk := { TimeBase.reset with
      state := .acquiring, u := 120, window := [120], slew := -150, prevMark := some ⟨1200, -150, .fibre, true⟩ } }

theorem test_mark_1 :
    let t := processMark ⟨1200, .fibre, none⟩ fast
    t.clk.slew = -150 ∧ t.clk.trim = 0 ∧ t.clk.state = .acquiring ∧ t.clk.u = 120 := by decide

theorem test_mark_2 :
    let t := processMark ⟨1080, .fibre, some 1⟩ fast2
    t.clk.slew = -135 ∧ t.clk.trim = -750 ∧ t.clk.acqCount = 1 ∧ t.clk.u = 120 := by decide

theorem test_mark_3 :
    let s : State := { fast2 with clk := { fast2.clk with
      trim := -750, slew := -135, acqCount := 1, window := [120, 108], prevMark := some ⟨1080, -135, .fibre, true⟩ } }
    let t := processMark ⟨968, .fibre, some 1⟩ s
    t.clk.slew = -121 ∧ t.clk.trim = -1325 ∧ t.clk.state = .tracking ∧ t.clk.u = 120 := by decide

/-- The clock before mark c of the step after an outage. -/
def confirming : State :=
  let s := clocked .acquiring .reset
  { s with clk := { s.clk with
      time := ⟨812, 30612, 420019⟩, window := [42000, 42002], u := 42002, candidate := some ⟨420000, 1⟩,
      prevMark := some ⟨420012, 0, .fibre, false⟩ } }

theorem test_step_at_mark_c :
    let t := processMark ⟨420019, .fibre, some 1⟩ confirming
    t.clk.time = ⟨812, 30612, 0⟩ ∧ t.clk.epoch = 18 ∧ t.clk.u = 1 ∧ t.clk.state = .acquiring := by decide

theorem test_step_entry :
    let t := processMark ⟨420019, .fibre, some 1⟩ confirming
    t.log.ring.map (fun e => e.body) = [.timeStep (some ⟨0, -42001⟩) false .fibre] := by decide

theorem test_mark_b_waits :
    let s : State := { confirming with clk := { confirming.clk with candidate := some ⟨420000, 0⟩ } }
    (processMark ⟨420012, .fibre, some 1⟩ s).clk.candidate = some ⟨420000, 1⟩ := by decide

/-- R6: exactly half a second from a boundary. -/
theorem test_phase_error_half : phaseError 5000000 = -5000000 ∧ phaseError 4999999 = 4999999 := by decide

/-- R3: the accumulator at the two ends of its range. -/
theorem test_accumulator_ends :
    accumulate 999999999 1 = (0, 2) ∧ accumulate (-999999999) (-1) = (0, 0) ∧ accumulate 999999998 1 = (999999999, 1) := by
  decide

/-- R1: the last second of the last day wraps to day 0. -/
theorem test_day_wraps : StationTime.advance ⟨65535, 86399, 9999999⟩ 1 = ⟨0, 0, 0⟩ := by decide

/-- The pending-date example of section 1.7: the console's date conflicts. -/
theorem test_set_date_conflict :
    let s := framed .c { State.reset with clk := { TimeBase.reset with slot := some ⟨812, 30700, ⟨true, true, false, false⟩⟩ } }
    statusAt .c (after (.setDate .c [3, 0x2C, 0, 0x78, 0x28]) s) = some .conflict := by decide

theorem test_set_date_conflict_told :
    let s := framed .c { State.reset with clk := { TimeBase.reset with slot := some ⟨812, 30700, ⟨true, true, false, false⟩⟩ } }
    hasKind ((after (.setDate .c [3, 0x2C, 0, 0x78, 0x28]) s).notices.get .b).pending .dateConflict = true := by decide

theorem test_set_date_agrees :
    let s : State := { ready with clk := { ready.clk with slot := some ⟨812, 30700, ⟨false, true, false, false⟩⟩ } }
    (after (.setDate .a [3, 0x2C, 0, 0x77, 0xEC]) s).clk.slot = some ⟨812, 30700, ⟨true, true, false, false⟩⟩ := by decide

/-- The SET CLOCK example of section 1.9: L 6,000,000 is clamped. -/
theorem test_set_clock_clamps :
    let t := after (.setClock .a [3, 2, 0, 0x5B, 0x8D, 0x80, 0, 100, 1, 0, 10, 0, 100]) ready
    t.settings.time.stepLimit = 5000000 ∧ t.settings.time.kp = 3 ∧ statusAt .a t = some .doneClamped := by decide

/-- The SET MARK WINDOW example of section 2.7: 80,000 is clamped to 50,000. -/
theorem test_set_mark_window_clamps :
    (after (.setMarkWindow .a [0, 1, 0x38, 0x80]) ready).settings.time.markWindow = 50000 := by decide

/-! ### The Mark Qualifier -/

/-- R33: the streak of the moved crest clock. -/
theorem test_streak_completes :
    streakAfter [13000000, 23000000] 33000000 = ([], true) ∧ streakAfter [13000000] 23000021 = ([23000021], false) := by
  decide

/-- R32: 1.3 s after the reference fits no whole second. -/
theorem test_stray : judge (some 0) 13000000 5000 = .stray ∧ judge (some 0) 10005000 5000 = .inWindow 1 := by decide

/-- R32: past 8 s and W a mark is an acquisition mark. -/
theorem test_acquisition :
    judge (some 0) 80005001 5000 = .acquisition ∧ judge (some 0) 80005000 5000 = .inWindow 8 := by decide

/-- R30: a high of 30 µs starts no pattern, and one of 50 µs does, dated at its rise. -/
theorem test_glitch_is_swallowed :
    let lit := after (.fibrePhaseEdge (.moves .high)) .reset
    let dark := after (.fibrePhaseEdge (.moves .low)) (atTick 300 lit)
    let stood := after (.fibrePhaseEdge .stands) (atTick 500 lit)
    dark.mq.pattern = none ∧ dark.mq.edge = none ∧ dark.mq.totals.malformed = 0
      ∧ stood.mq.pattern = some ⟨0, 0, false⟩ ∧ stood.mq.recogniser = .firstHigh := by decide

/-! ### The telegram (the example of section 11.3) -/

theorem test_telegram_bytes :
    telegramBytes 1 .b 18 812 52000 = [0x2A, 0x03, 0x2C, 0x00, 0xCB, 0x20, 0xBC] := by decide

theorem test_telegram_judged :
    judgeTelegram (bitList 0x2A032C00CB20BC) = some ⟨1, .b, 2, 812, 52000⟩ := by decide

theorem test_telegram_check : judgeTelegram (bitList 0x2A032C00CB20BD) = none := by decide

/-- A line date is taken with its second past the last of a day refused (R48): second 86,400 is 01 51 80. -/
theorem test_telegram_second : judgeTelegram (bitList 0x2A032C015180D5) = none := by decide

/-! ### Trip inputs -/

/-- Input 5 of the loose-wire example, at elapsed second 1,001. -/
def loose (x : TripInput) : State :=
  let s := atSecond 1001 State.reset
  let setting : InputSetting := { enabled := true, activeLow := false, unit := 3, code := 12, tq := 20, logReleases := false }
  { s with
    inputs := s.inputs.set 5 x
    pins := { s.pins with tripIn := 0x0020 }
    settings := { s.settings with inputs := { s.settings.inputs with inputs := s.settings.inputs.inputs.set 5 setting } } }

/-- The edge captured at elapsed second 1,000.52. -/
def edge : Capture := { stamp := stampNow .reset, reading := 10005200000, tq := 20 }

theorem test_glitch_scores :
    let t := after (.tripTrailingEdge 5) (loose ⟨.qualifying, some edge, 29, some 10000000000⟩)
    t.inputs.get 5 = ⟨.idle, none, 30, some 10000000000⟩ := by decide

theorem test_fast_repeat_scores :
    let t := after (.assertQualifies 5) (loose ⟨.qualifying, some edge, 30, some 10000000000⟩)
    t.inputs.get 5 = ⟨.active, none, 31, some 10005200000⟩ ∧ t.log.nextSeq = 1 := by decide

theorem test_fast_repeat_blocks :
    let t := after (.assertQualifies 5) (loose ⟨.qualifying, some edge, 31, some 10000000000⟩)
    t.inputs.get 5 = ⟨.blocked, none, 32, some 10005200000⟩ ∧ t.log.nextSeq = 2 := by decide

/-- The SET INPUT example of section 4.5: Tq 0 is clamped to 0.1 ms, and a high line is inactive under active low. -/
theorem test_set_input_example :
    let s : State := { ready with pins := { ready.pins with tripIn := 0x0800 } }
    let t := after (.setInput .a [11, 1, 1, 6, 33, 0, 1]) s
    t.settings.inputs.inputs.get 11 = ⟨true, true, 6, 33, 1, true⟩ ∧ (t.inputs.get 11).state = .idle
      ∧ statusAt .a t = some .doneClamped := by decide

/-! ### The Trip Log and the filters -/

/-- A ring of entries 4,180 to 5,203 has oldest 4,180; the three seeks of section 5.3 are judged by the numbers alone. -/
theorem test_seek_behind : (4100 - 5204 : BitVec 16).toNat = 64432 ∧ (5300 - 5204 : BitVec 16).toNat = 96 := by decide

/-- The SET FILTER example of section 5.12: codes 20 to 23 on machine units match. -/
theorem test_filter_example :
    let f : Filter := { code := 20, mask := 60, units := 255, actions := ⟨true, true, false⟩ }
    f.accepts 0 23 = true ∧ f.accepts 0 24 = false ∧ f.accepts 8 20 = false := by decide

/-- R95: an earlier epoch is earlier whatever the stamp. -/
theorem test_first_out_epoch :
    FirstOut.earlier ⟨3, ⟨0, 9, 0⟩, 17, 0⟩ ⟨2, ⟨0, 8, 0⟩, 18, 1⟩ = true := by decide

/-! ### The units (the start sequence of section 6.2 and the overhaul of section 6.7) -/

theorem test_settle_counts_a_start :
    let s := atSecond 702 State.reset
    let s : State := { s with units := s.units.set 6 { MachineUnit.reset with
      raw := some .generating, candidate := some .generating, settleStart := 7000000000, mode := some .starting } }
    ((after (.settleExpiry 6) s).units.get 6).counts.genStarts = 1 := by decide

theorem test_code_change_settles :
    ((after (.unitCodeChange 6 1) .reset).units.get 6).candidate = some .starting := by decide

/-- Unit 2 of the overhaul example, ready to take a new limit from port A. -/
def overhaul : State :=
  { ready with units := ready.units.set 2 { MachineUnit.reset with
      tallies := { ModeTallies.zero with generating := ⟨8211004, 0⟩ }, serviceDue := true } }

theorem test_service_limit_raised :
    ((after (.setServiceLimit .a [2, 0, 0x80, 0x2C, 0x80]) overhaul).units.get 2).serviceDue = false := by decide

theorem test_service_limit_below :
    ((after (.setServiceLimit .a [2, 0, 0x7A, 0x12, 0x00]) overhaul).units.get 2).serviceDue = true := by decide

/-- PRESET TALLY 5, GENERATING, 30,000 of section 6.7, with limit 20,000. -/
theorem test_preset_makes_service_due :
    let s : State := { ready with settings := { ready.settings with tally := { ready.settings.tally with
      limits := ready.settings.tally.limits.set 5 20000 } } }
    let t := after (.presetTally .a [5, 2, 0, 0, 0x75, 0x30]) s
    (t.units.get 5).tallies.generating = ⟨30000, 0⟩ ∧ (t.units.get 5).serviceDue = true := by decide

/-- R146: at the return to NORMAL the program in progress has no emergency mark left. -/
theorem test_return_clears_the_program_mark :
    let x : Program :=
      { content := .time ⟨0, 0⟩, copy := .one, counter := 1, emergency := true, retry := false, start := 0 }
    let s := atTick 1000000 State.reset
    let s : State := { s with
      supply := { s.supply with state := .warning, restore := some 0 }, store := { s.store with program := some x } }
    (after .returnToNormal s).store.program = some { x with emergency := false } := by decide

/-! ### Shifts -/

/-- The example of section 8.2: the forward step of 29,399 s passes boundary 2 and then boundary 0. -/
theorem test_step_passes_boundaries :
    let schedule : List Boundary := [⟨21600, some 2⟩, ⟨50400, some 3⟩, ⟨79200, some 1⟩]
    (passedBoundaries schedule ⟨812, 79000, 9999999⟩ ⟨813, 22000, 0⟩).map (fun x => (x.index, x.day)) =
      [(2, 812), (0, 813)] := by decide

theorem test_date_step_size : (dateStepSize 813 22000 ⟨812, 79001, 0⟩).seconds = 29399 := by decide

theorem test_fresh_markers :
    let s : State := { State.reset with clk := { TimeBase.reset with time := ⟨812, 79020, 0⟩ } }
    [⟨21600, none⟩, ⟨50400, none⟩, ⟨79200, none⟩].map (freshMarker s) = [some 812, some 812, some 811] := by decide

theorem test_open_handover_rings :
    let t := after (.openHandover .a []) ready
    t.shift.state = .handoverOpen ∧ t.shift.bell = some ⟨0, 20000000⟩ := by decide

/-! ### Ports, locks and notices -/

/-- The locked TALLY group of section 9.6. -/
theorem test_preset_locked :
    let s : State := framed .c { State.reset with locks := Locks.free.assign .tally (some .a) }
    statusAt .c (after (.presetTally .c [5, 2, 0, 0, 0x75, 0x30]) s) = some .locked := by decide

theorem test_dropped_frame_sets_overrun :
    let s := framed .b (.reset : State)
    let s := s.withPort .b { s.ports.get .b with state := .executing, binding := some .queued }
    (after (.readUnits .b []) s).ports.get .b
      = { PortCtl.reset with state := .executing, binding := some .queued, overrun := true } := by decide

theorem test_save_begins_the_program :
    let t := after (.saveSettings .a []) ready
    (t.ports.get .a).binding = some .program ∧ (t.ports.get .a).answer = none := by decide

/-- R182, R185: a FETCH at an idle port shifts out NOT_NOW after its 16 bits, most significant bit first. -/
theorem test_fetch_shifts_not_now :
    let c := (after (.fetch .a 0 []) ready).ports.get .a
    [15, 16, 22, 23, 24].map (dataOutHigh c) = [false, false, true, true, false] := by decide

/-- R185: a FETCH taken before the end of a save shifts out BUSY after it; the next transaction's FETCH, the new answer. -/
theorem test_fetch_before_the_end_is_busy :
    let saving := atSecond 1 (after (.fetch .a 0 []) (framed .a (after (.saveSettings .a []) ready)))
    let c := (after (.programEnd true) saving).ports.get .a
    let again := (after (.fetch .a 0 []) (after (.selectFall .a) (after (.programEnd true) saving))).ports.get .a
    c.state = .answerReady ∧ [16, 17, 18, 19, 20, 21, 22, 23].map (dataOutHigh c)
        = [false, false, false, false, false, false, true, false]
      ∧ dataOutHigh again 22 = false := by decide

/-- The SET NOTICES example of section 10.4: 18 kinds, units 0 to 3, a holdoff of 2,500 clamped to 1,000. -/
theorem test_set_notices_example :
    let s : State := ready.withNotices .a { pending := 0xC0000, holdoff := none, attention := true }
    let t := after (.setNotices .a [1, 0x17, 0xFE, 0x7F, 0, 0x0F, 0x09, 0xC4]) s
    t.settings.notice.a.holdoff = 1000 ∧ t.notices.a.pending = 0x40000 ∧ statusAt .a t = some .doneClamped := by decide

/-- Section 10.3 at 60.0 ms: CLEAR NOTICES with no kind releases the line for the holdoff. -/
theorem test_clear_notices_releases :
    ((after (.clearNotices .a [0, 0, 0]) ready).notices.get .a).attention = false := by decide

/-! ### Witnesses: states and operands that meet the premises of the statements, with a boundary value for each clause

Each theorem bears the name of its statement. -/

/-- The supply state moved, with the restore timer of `r`. -/
def supplied (x : SupplyState) (r : Option Reading) (s : State) : State :=
  { s with supply := { s.supply with state := x, restore := r } }

/-- The part in RETAIN, with what RETAIN entry empties empty. -/
def retained : State :=
  let dark : Notices := { pending := 0, holdoff := none, attention := false }
  { supplied .retain none .reset with
    tl := { TimeLine.reset with highSince := none }
    store := { TallyStore.reset with interval := none, hourly := none }
    notices := ⟨dark, dark, dark⟩ }

/-- A clock in TRACKING with seven marks counted toward LOCKED. -/
def tracking (s : State) : State :=
  { s with clk := { s.clk with
      state := .tracking, u := 120, window := [120, 97], lockCount := 7, silence := some 0,
      prevMark := some ⟨80, -10, .fibre, true⟩ } }

/-- A burst record of number 7 with HOLD_HANDOVER. -/
def record (x : BurstState) : BurstRecord :=
  { number := 7, state := x, ack := none, shift := 0, opening := 0, lastJoin := 0, firstOut := ⟨0, ⟨0, 0, 0⟩, 0, 0⟩,
    asserts := 1, units := 1, actions := ⟨false, true, false⟩, counted := 0, lostEntries := false, overflowJoined := false }

/-- A table that holds that record alone. -/
def bursting (x : BurstState) (s : State) : State :=
  { s with
    bursts := { records := [record x], openRef := if x = .closed then none else some 7, nextNumber := 8, holdCount := 1 }
    shift := { s.shift with holdCount := 1 } }

/-- A handover opened by port B and released there. -/
def handover : Handover :=
  { openedBy := .port .b, expected := some 3, stamp := .cold 0, reading := 0, released := some .b, accepted := none, missed := 0 }

def handingOver (s : State) : State :=
  { s with shift := { s.shift with state := .handoverOpen, handover := some handover } }

/-- A ring that holds one entry, number 0. -/
def logged (s : State) : State :=
  { s with log := { TripLog.reset with
      ring := [{ seq := 0, stamp := .cold 0, shift := 0, body := .chatterBlock 0 8 }], nextSeq := 1 } }

theorem ready_framed (p : Port) (s : State) (h : (s.ports.get p).state ≠ .executing) (w : working s = true) :
    Ready p (framed p s) := by
  refine ⟨by simp [framed], ?_, w⟩
  simpa [framed] using h

theorem ready_a : Ready .a ready := ready_framed .a .reset (by decide) rfl

theorem witness_StepRunsTheFrontCommand :
    ({ State.reset with pending := [.lineReset] } : State).pending = .lineReset :: [] := rfl

theorem witness_EmptyQueueCountsOnePeriod :
    State.reset.pending = [] ∧ State.reset.supply.stopped = false ∧ State.reset.clk.elapsedTicks < 10000000 := by decide

/-- Two ticks, and none, at the ends of the accumulator. -/
theorem witness_EmptyQueueCountsOnePeriod_ends :
    let s := fun (a d : Int) => ({ State.reset with clk := { TimeBase.reset with acc := a, trim := d } } : State)
    now (tick (s 999999999 1)) = 2 ∧ now (tick (s (-999999999) (-1))) = 0 ∧ now (tick (s 0 0)) = 1 := by decide

/-- A change of light becomes due at its 50 µs, and no tick before. -/
theorem witness_EmptyQueueCountsOnePeriod_due :
    let s : State := { State.reset with mq := { MarkQualifier.reset with edge := some ⟨0, 0, false⟩ } }
    (tick (atTick 499 s)).pending = [.fibrePhaseEdge .stands] ∧ (tick (atTick 498 s)).pending = [] := by decide

theorem witness_EveryStepKeepsTheClockSafe : ClockInv (tracking .reset) ∧ step (tracking .reset) = .next (tick (tracking .reset)) := by
  refine ⟨?_, rfl⟩
  simp [ClockInv, ClockRanges, ClockModes, StationTime.named, TimeBase.quiet, tracking, State.reset, TimeBase.reset,
    Config.day, Config.second, Config.accRange, Config.uTop]

/-- A fibre with 31 faults, not yet FAULTED. -/
def noisy (s : State) : State :=
  { s with mq := { s.mq with
      recogniser := .low, pattern := some ⟨0, 0, false⟩, faultCounter := 31, fibrePresence := some 0, selected := .fibre } }

theorem witness_EveryStepKeepsTheSourceSafe : SourceInv (noisy .reset) ∧ step (noisy .reset) = .next (tick (noisy .reset)) := by
  refine ⟨?_, rfl⟩
  simp [SourceInv, selectable, Recogniser.inPattern, noisy, State.reset, MarkQualifier.reset]

/-- The line pulled low by another party, its telegram begun at a reading. -/
def receiving (x : Receiver) (r : Reading) (s : State) : State :=
  { s with
    pins := { s.pins with timeLine := .low }
    tl := { s.tl with
      receiver := x, freeCount := 0, highSince := none, capture := some ⟨r, ⟨812, 52000, 0⟩, 0, .a, false, false⟩ } }

theorem witness_EveryStepKeepsTheLineSafe :
    LineInv (receiving .start 0 .reset) ∧ step (receiving .start 0 .reset) = .next (tick (receiving .start 0 .reset)) := by
  refine ⟨?_, rfl⟩
  simp [LineInv, lineLevel, partPulls, sendingNow, working, receiving, State.reset, TimeLine.reset, SupplyMonitor.reset]

theorem witness_EveryStepKeepsTheInputsSafe :
    InputsInv (loose ⟨.qualifying, some edge, 31, none⟩) ∧ ∃ t, step (loose ⟨.qualifying, some edge, 31, none⟩) = .next t := by
  refine ⟨?_, _, rfl⟩
  intro i
  unfold InputSafe
  revert i
  decide

theorem log_safe (s : State) : LogInv (logged s) := by
  refine ⟨by simp [logged, Config.ringSize], by simp [logged, TripLog.reset], ?_⟩
  intro p
  cases p <;> simp [logged, TripLog.reset, PerPort.get]

theorem witness_EveryStepKeepsTheLogSafe : LogInv (logged .reset) ∧ ∃ t, step (logged .reset) = .next t :=
  ⟨log_safe _, _, rfl⟩

theorem burst_safe (x : BurstState) (p : Port) : BurstInv (framed p (bursting x .reset)) := by
  cases x <;>
    simp [BurstInv, bursting, record, framed, State.withPort, State.reset, Config.burstPlaces, BurstRecord.holds, working,
      SupplyMonitor.reset]

theorem witness_EveryStepKeepsTheBurstsSafe :
    BurstInv (framed .a (bursting .opened .reset)) ∧ ∃ t, step (framed .a (bursting .opened .reset)) = .next t :=
  ⟨burst_safe _ _, _, rfl⟩

theorem units_safe : UnitsInv ready := by
  intro u
  unfold UnitSafe
  revert u
  decide

theorem witness_EveryStepKeepsTheUnitsSafe : UnitsInv ready ∧ ∃ t, step ready = .next t := ⟨units_safe, _, rfl⟩

theorem queue_safe (p : Port) : QueueSafe (framed p .reset) := by
  simp [QueueSafe, framed, State.withPort, State.reset, TallyStore.reset]

theorem store_safe : StoreInv ready := by
  refine ⟨queue_safe .a, ?_⟩
  intro p
  cases p <;> simp [PortSafe, ready, framed, State.withPort, State.reset, PerPort.get, PerPort.set, PortCtl.reset]

theorem witness_EveryStepKeepsTheStoreSafe : StoreInv ready ∧ ∃ t, step ready = .next t := ⟨store_safe, _, rfl⟩

theorem witness_EveryStepKeepsTheShiftSafe :
    ShiftInv (handingOver .reset) ∧ ∃ t, step (handingOver .reset) = .next t := by
  refine ⟨?_, _, rfl⟩
  simp [ShiftInv, handingOver, State.reset, ShiftController.reset, Settings.default, ShiftSettings.default, gradeNow,
    TimeBase.reset, ClockState.grade, Grade.rank]

theorem witness_EveryStepKeepsTheNoticesSafe : NoticesInv retained ∧ ∃ t, step retained = .next t := by
  refine ⟨?_, _, rfl⟩
  intro p
  unfold NoticeSafe
  cases p <;> decide

theorem witness_CommandsMoveTimeOnlyByASteppedEpoch :
    Instr.retainEntry ≠ .coldStart ∧ Instr.retainEntry ≠ .backupCellLost ∧ State.reset.supply.cellLost = false
      ∧ exec .retainEntry .reset = .next (after .retainEntry .reset)
      ∧ (after .retainEntry .reset).clk.epoch = State.reset.clk.epoch := ⟨by decide, by decide, rfl, rfl, rfl⟩

/-- Every lock held by port B. -/
def lockedByB (s : State) : State := { s with locks := ⟨some .b, some .b, some .b, some .b, some .b, some .b⟩ }

theorem witness_AHeldGroupIsNotWritten :
    senderOf (.setClock .a []) = some .a ∧ (∀ g ∈ allGroups, heldByOther (lockedByB ready) .a g = true)
      ∧ exec (.setClock .a []) (lockedByB ready) = .next (after (.setClock .a []) (lockedByB ready)) :=
  ⟨rfl, by decide, rfl⟩

theorem witness_AFrameTouchesItsOwnPort :
    senderOf (.readPorts .a []) = some .a ∧ Port.b ≠ Port.a ∧ working (framed .a retained) = false
      ∧ exec (.readPorts .a []) ready = .next (after (.readPorts .a []) ready) := ⟨rfl, by decide, rfl, rfl⟩

theorem witness_FramesAreJudgedInOrder :
    let long := List.replicate 61 (0 : Byte)
    let executing := State.reset.withPort .a { PortCtl.reset with state := .executing, transaction := some { counts := true } }
    commandOf (.setDate .a long) = some (.a, long, false) ∧ commandOf (.setDate .a [0]) = some (.a, [0], false)
      ∧ ([0] : List Byte).length ≤ 60 ∧ 60 < long.length
      ∧ ((State.reset).ports.get .a).transaction = none
      ∧ ((State.reset.withPort .a { PortCtl.reset with transaction := some { counts := false } }).ports.get .a).transaction
          = some { counts := false }
      ∧ ((State.reset.withPort .a { PortCtl.reset with
          transaction := some { counts := true, fetched := true } }).ports.get .a).transaction
          = some { counts := true, fetched := true }
      ∧ (executing.ports.get .a).transaction = some { counts := true } ∧ (executing.ports.get .a).state = .executing
      ∧ working executing = true
      ∧ (let bits := (([0x10, 1] : List Byte).flatMap fun b => (List.range 8).map b.getMsbD).take 16
         bits ≠ [] ∧ ¬(numberOfBits (bits.take 8) = 1 ∧ numberOfBits ((bits.drop 8).take 8) = 0)
           ∧ bits.length ≠ 16 + 8 * numberOfBits ((bits.drop 8).take 8))
      ∧ isCommand 0x6B = false ∧ (1 : Byte) ≠ 0 ∧ ([] : List Bool).length ≠ 8 * (1 : Byte).toNat
      ∧ (1 : Byte).toNat ≤ 60 ∧ (wireBits [7]).length = 8 * (1 : Byte).toNat := by decide

/-- R184: a broken frame, an unknown command and a FETCH with a length byte are dropped in EXECUTING, and end a transaction that
does not count. -/
theorem witness_FramesAreJudgedInOrder_others :
    let executing := State.reset.withPort .a { PortCtl.reset with state := .executing, transaction := some { counts := true } }
    let ignored := State.reset.withPort .a { PortCtl.reset with transaction := some { counts := false } }
    [Instr.brokenFrame .a 9 [0x10, 0x80], .unknownCommand .a 0x6B [], .fetch .a 1 []].map
        (fun c => ((after c executing).ports.get .a, (after c ignored).ports.get .a))
      = List.replicate 3 ({ PortCtl.reset with state := .executing, overrun := true }, PortCtl.reset) := by decide

theorem witness_TransactionsAndFetch :
    let executing := framed .a (State.reset.withPort .a { PortCtl.reset with state := .executing })
    let answered := framed .a (State.reset.withPort .a { PortCtl.reset with
      state := .answerReady, answer := some ⟨.done, false, .empty⟩ })
    let ignored := State.reset.withPort .a { PortCtl.reset with transaction := some { counts := false } }
    let fetched := after (.fetch .a 0 []) ready
    (State.reset.ports.get .a).transaction = none
      ∧ (ready.ports.get .a).transaction = some { counts := true } ∧ working ready = true
      ∧ (ready.ports.get .a).state = .idle ∧ (executing.ports.get .a).state = .executing
      ∧ (executing.ports.get .a).transaction = some { counts := true } ∧ working executing = true
      ∧ (answered.ports.get .a).state = .answerReady
      ∧ (answered.ports.get .a).answer = some ⟨.done, false, .empty⟩
      ∧ (answered.ports.get .a).transaction = some { counts := true } ∧ working answered = true
      ∧ (ignored.ports.get .a).transaction = some { counts := false } ∧ working (framed .a retained) = false
      ∧ (fetched.ports.get .a).transaction = some { counts := true, fetched := true }
      ∧ exec (.programEnd true) fetched = .next (after (.programEnd true) fetched) := by
  refine ⟨rfl, rfl, rfl, rfl, rfl, rfl, rfl, rfl, rfl, rfl, rfl, rfl, rfl, rfl, rfl⟩

theorem witness_ReadsWithoutArgumentAnswerTheirSample : Ready .a ready := ready_a

theorem witness_ReadsByNumberAnswerTheirSample :
    let s := framed .a (bursting .opened .reset)
    Ready .a s ∧ ([15] : List Byte).length = 1 ∧ (15 : Fin 16).val = argNumber [15] 0 1
      ∧ 16 ≤ argNumber [16] 0 1 ∧ (7 : Fin 8).val = argNumber [7] 0 1 ∧ 8 ≤ argNumber [8] 0 1
      ∧ portCode (some .c) = argNumber [3] 0 1 ∧ argNumber [0] 0 1 = 0 ∧ 4 ≤ argNumber [4] 0 1
      ∧ ([0, 7] : List Byte).length = 2
      ∧ s.bursts.records.find? (fun x => x.number.toNat = argNumber [0, 7] 0 2) = some (record .opened)
      ∧ ∀ r ∈ s.bursts.records, r.number.toNat ≠ argNumber [0, 8] 0 2 := by
  refine ⟨ready_framed .a _ (by decide) rfl, ?_⟩
  decide

theorem witness_LineAndLogReads :
    let s := framed .a (logged .reset)
    Ready .a s ∧ LogInv s
      ∧ ([1] : List Byte).length = 1 ∧ argNumber [0] 0 1 = 0 ∧ argNumber [1] 0 1 = 1 ∧ 2 ≤ argNumber [2] 0 1
      ∧ s.log.cursors.get .a = s.log.nextSeq - BitVec.ofNat 16 s.log.ring.length + BitVec.ofNat 16 0
      ∧ 0 ≤ s.log.ring.length ∧ ([0, 1] : List Byte).length = 2
      ∧ BitVec.ofNat 16 (argNumber [0, 1] 0 2) = s.log.nextSeq
      ∧ (BitVec.ofNat 16 (argNumber [0, 2] 0 2) - s.log.nextSeq).toNat < 32768
      ∧ ¬ (BitVec.ofNat 16 (argNumber [0x80, 1] 0 2) - s.log.nextSeq).toNat < 32768 := by
  refine ⟨ready_framed .a _ (by decide) rfl, log_safe .reset, ?_⟩
  decide

theorem witness_SettingsAreWrittenWhole :
    Ready .a ready ∧ ([0, 0, 0, 100] : List Byte).length = 4 ∧ ([0, 100] : List Byte).length = 2
      ∧ ([1, 0, 0, 0, 3, 0xE8, 0, 10, 1, 0, 1, 0, 1] : List Byte).length = 13
      ∧ argNumber [1, 0, 0, 0, 3, 0xE8, 0, 10, 1, 0, 1, 0, 1] 8 1 ≤ 1
      ∧ ¬ argNumber [1, 0, 0, 0, 3, 0xE8, 0, 10, 2, 0, 1, 0, 1] 8 1 ≤ 1
      ∧ (3 : Fin 4).val = argNumber [3, 63, 63, 1, 0xFF, 7] 0 1 ∧ argNumber [3, 63, 63, 1, 0xFF, 7] 1 1 < 64
      ∧ argNumber [3, 63, 63, 1, 0xFF, 7] 2 1 < 64 ∧ argNumber [3, 63, 63, 1, 0xFF, 7] 3 2 < 512
      ∧ argNumber [3, 63, 63, 1, 0xFF, 7] 5 1 < 8 ∧ 4 ≤ argNumber [4, 0, 0, 0, 0, 0] 0 1
      ∧ 512 ≤ argNumber [0, 0, 0, 2, 0, 0] 3 2 := by
  refine ⟨ready_a, ?_⟩
  decide

theorem witness_LineSettingsAreWritten :
    Ready .a ready ∧ ([7, 2, 0, 10] : List Byte).length = 4 ∧ argNumber [7, 2, 0, 10] 0 1 ≤ 7
      ∧ ¬ argNumber [8, 2, 0, 10] 0 1 ≤ 7 ∧ ([2] : List Byte).length = 1
      ∧ argNumber [0] 0 1 = 0 ∧ argNumber [1] 0 1 = 1 ∧ argNumber [2] 0 1 = 2 ∧ 3 ≤ argNumber [3] 0 1
      ∧ since (atSecond 4 ready) 0 ≤ ready.settings.line.takeover * 10000000
      ∧ ¬ since (atSecond 5 ready) 0 ≤ ready.settings.line.takeover * 10000000 := by
  refine ⟨ready_a, ?_⟩
  decide

theorem witness_SourceCommandsAndExpiriesSelectAgain :
    let s := framed .a (noisy .reset)
    let late := atSecond 3 (noisy .reset)
    SourceInv s ∧ Ready .a s ∧ ([0, 0, 0] : List Byte).length = 3
      ∧ argNumber [1, 0, 0] 0 1 ≤ 1 ∧ ¬ argNumber [2, 0, 0] 0 1 ≤ 1
      ∧ late.supply.stopped = false ∧ 30000000 ≤ since late 0 ∧ late.mq.fibrePresence = some 0 := by
  refine ⟨?_, ready_framed .a _ (by decide) rfl, ?_⟩
  · simp [SourceInv, selectable, Recogniser.inPattern, noisy, framed, State.withPort, State.reset, MarkQualifier.reset]
  · decide

/-- The source left is LINE, whose reference goes with it, or the fibre, with which the line reference stays. -/
theorem witness_SourceCommandsAndExpiriesSelectAgain_line :
    let s := fun (x : MarkQualifier) => atSecond 3 ({ State.reset with mq := { x with lineRef := some 5 } } : State)
    let line := s { MarkQualifier.reset with selected := .line, peerPresence := some 0 }
    let fibre := s { MarkQualifier.reset with selected := .fibre, fibrePresence := some 0 }
    line.supply.stopped = false ∧ 30000000 ≤ since line 0 ∧ line.mq.peerPresence = some 0 ∧ line.mq.selected = .line
      ∧ line.settings.line.lineMarks = true ∧ (after .peerPresenceExpiry line).mq.lineRef = none
      ∧ fibre.mq.fibrePresence = some 0 ∧ (after .fibrePresenceExpiry fibre).mq.lineRef = some 5 := by decide

theorem witness_LocksAreTakenAndFreed :
    Ready .a (lockedByB ready) ∧ ([5] : List Byte).length = 1 ∧ groupOf (argNumber [5] 0 1) = some .notice
      ∧ 6 ≤ argNumber [6] 0 1 ∧ ready.locks.holder .notice = none
      ∧ (lockedByB ready).locks.holder .notice = some .b ∧ Port.b ≠ Port.a := by
  refine ⟨⟨rfl, by decide, rfl⟩, ?_⟩
  decide

/-- Another port's UNLOCK GROUP, and a RETAIN entry with a sound cell, are among the commands under which a lock stays held. -/
theorem witness_LocksAreTakenAndFreed_held :
    (∀ args, Instr.unlockGroup .a [5] ≠ .unlockGroup .b args)
      ∧ exec (.unlockGroup .a [5]) (lockedByB ready) = .next (after (.unlockGroup .a [5]) (lockedByB ready))
      ∧ (lockedByB ready).locks.holder .notice = some .b ∧ (lockedByB ready).supply.cellLost = false := by
  refine ⟨?_, rfl, ?_⟩
  · intro args h
    cases h
  · decide

theorem witness_SaveSettingsBindsThePort :
    Ready .a ready ∧ StoreInv ready ∧ (∀ g ∈ allGroups, heldByOther ready .a g = false)
      ∧ heldByOther (lockedByB ready) .a .shift = true := ⟨ready_a, store_safe, by decide, by decide⟩

theorem witness_SetDateMovesTheSlot :
    Ready .a ready ∧ ([0, 0, 1, 0x51, 0x7F] : List Byte).length = 5 ∧ argNumber [0, 0, 1, 0x51, 0x7F] 2 3 < 86400
      ∧ 86400 ≤ argNumber [0, 0, 1, 0x51, 0x80] 2 3 ∧ ready.clk.slot = none
      ∧ (⟨true, false, false, false⟩ : Setters) ≠ ⟨true, true, false, false⟩ := by
  refine ⟨ready_a, ?_⟩
  decide

/-- A boundary issued and not yet taken, at the state's second of day. -/
def atBoundary (x : ClockState) (slot : Option PendingDate) (s : State) : State :=
  { s with clk := { s.clk with state := x, boundaries := 1, slot := slot } }

/-- The role of the part. -/
def inRole (r : Role) (s : State) : State := { s with settings := { s.settings with line := { s.settings.line with role := r } } }

theorem witness_ABoundaryStartsThePulseAndAppliesTheDate :
    let s := atBoundary .tracking none (inRole .listen .reset)
    let d := atBoundary .unset (some ⟨812, 30700, ⟨true, false, false, false⟩⟩) .reset
    working s = true ∧ s.clk.boundaries ≠ 0 ∧ s.clk.slot = none ∧ s.settings.line.role = .listen
      ∧ (∀ b ∈ s.settings.shift.schedule, b.second ≠ s.clk.time.second)
      ∧ (inRole .primary s).settings.line.role ≠ .standby ∧ (atBoundary .free none s).clk.state = .free
      ∧ working d = true ∧ d.clk.boundaries ≠ 0 ∧ d.clk.slot = some ⟨812, 30700, ⟨true, false, false, false⟩⟩ := by decide

/-- A date one second ahead is reported as a forward step; one a second behind, or the date that stands, moves no marker. -/
theorem witness_ABoundaryStartsThePulseAndAppliesTheDate_steps :
    let dated := fun (day : BitVec 16) (second : Nat) =>
      atBoundary .free (some ⟨day, second, ⟨true, false, false, false⟩⟩)
        { State.reset with
          settings := { Settings.default with shift := { ShiftSettings.default with schedule := [⟨7, none⟩] } }
          shift := { ShiftController.reset with markers := [none] } }
    let shown := fun (s : State) => (after .stationSecondBoundary s).clk.time
    let before := lastTickBefore State.reset.clk.time
    working (dated 0 1) = true ∧ (dated 0 1).clk.boundaries ≠ 0 ∧ (dated 0 1).clk.state ≠ .unset
      ∧ (dated 0 1).clk.time.fraction < 10000000 ∧ 0 < tickDifference (shown (dated 0 1)) before
      ∧ tickDifference (shown (dated 65535 86399)) before ≤ 0 ∧ (dated 0 0).clk.time.second = 0
      ∧ (dated 0 1).settings.shift.schedule[0]? = some ⟨7, none⟩ := by decide

/-- The first date starts the pulse (R23). With boundaries at seconds 0 and 7: a date at second 7 fires the second of them, by the
report ahead, and by its second in UNSET; the one not due keeps its marker. -/
theorem witness_ABoundaryStartsThePulseAndAppliesTheDate_fires :
    let dated := fun (x : ClockState) (m : Option (BitVec 16)) =>
      atBoundary x (some ⟨0, 7, ⟨true, false, false, false⟩⟩)
        { State.reset with
          settings := { Settings.default with shift := { ShiftSettings.default with schedule := [⟨0, none⟩, ⟨7, none⟩] } }
          shift := { ShiftController.reset with markers := [some 0, m] } }
    let t := fun x m => after .stationSecondBoundary (dated x m)
    (dated .unset none).clk.secOut = none ∧ (t .unset none).clk.secOut = some { start := 0, length := 1000000 }
      ∧ (dated .free none).clk.time.fraction < 10000000
      ∧ (dated .free none).settings.shift.schedule[1]? = some ⟨7, none⟩ ∧ (dated .free none).shift.markers[1]? = some none
      ∧ (t .unset none).shift.markers = [some 0, some 0] ∧ (t .free none).shift.markers = [some 0, some 0]
      ∧ (t .free (some 0)).shift.markers = [some 0, some 0] ∧ (t .free (some 65535)).shift.markers = [some 0, some 0]
      ∧ (t .free (some 1)).shift.markers = [some 0, some 1] := by decide

theorem witness_ABoundarySendsOrTakesOver :
    let s := atBoundary .locked none (inRole .primary .reset)
    let free : State := { s with tl := { s.tl with freeCount := 12, receiver := .idle } }
    let low : State := { free with pins := { free.pins with timeLine := .low } }
    let waiting := atSecond 4 (atBoundary .locked none .reset)
    working s = true ∧ s.clk.boundaries ≠ 0 ∧ s.clk.slot = none ∧ s.settings.line.role = .primary
      ∧ s.clk.state ≠ .free ∧ s.clk.state ≠ .unset ∧ s.tl.freeCount ≠ 12
      ∧ free.tl.freeCount = 12 ∧ free.pins.timeLine = .high ∧ free.tl.sendState = .idle ∧ free.tl.receiver = .idle
      ∧ lineLevel low = .low
      ∧ waiting.settings.line.role = .standby ∧ waiting.tl.phase = .waiting
      ∧ waiting.settings.line.takeover * 10000000 ≤ since waiting waiting.tl.silence
      ∧ since (atSecond 3 waiting) waiting.tl.silence < waiting.settings.line.takeover * 10000000 := by decide

/-- The first date, with the discipline stage at TRACKING, lets the part send at the boundary that applies it (R18, R50); a waiting
STANDBY that takes over sends at the same boundary (R55). -/
theorem witness_ABoundarySendsOrTakesOver_dated :
    let s := atBoundary .unset (some ⟨812, 30700, ⟨false, false, false, true⟩⟩) (inRole .standby .reset)
    let s : State := atSecond 4 { s with
      clk := { s.clk with stage := .tracking }, tl := { s.tl with freeCount := 12, receiver := .idle } }
    working s = true ∧ s.clk.boundaries ≠ 0 ∧ s.settings.line.role = .standby ∧ s.tl.phase = .waiting
      ∧ s.settings.line.takeover * 10000000 ≤ since s s.tl.silence
      ∧ datedState s = .tracking ∧ datedTime s = ⟨812, 30700, 0⟩ ∧ datedEpoch s = 1
      ∧ s.tl.freeCount = 12 ∧ s.pins.timeLine = .high ∧ s.tl.sendState = .idle ∧ s.tl.receiver = .idle
      ∧ (after .stationSecondBoundary s).tl.outgoing = some (telegramBits 7 .b 1 812 30700) := by decide

/-- A schedule of one boundary at second 0 of the day, last fired on day 65,535. -/
def scheduled (s : State) : State :=
  { s with
    settings := { s.settings with shift := { s.settings.shift with schedule := [⟨0, some 3⟩] } }
    shift := { s.shift with markers := [some 65535] } }

theorem scheduled_safe (r : Role) : ShiftInv (scheduled (atBoundary .free none (inRole r .reset))) := by
  simp [ShiftInv, scheduled, atBoundary, inRole, State.reset, ShiftController.reset, Settings.default, gradeNow,
    ClockState.grade, Grade.rank]

theorem witness_ABoundaryFiresTheSchedule :
    let s := scheduled (atBoundary .free none (inRole .primary .reset))
    ShiftInv s ∧ working s = true ∧ s.clk.boundaries ≠ 0 ∧ s.clk.slot = none ∧ s.settings.line.role ≠ .listen
      ∧ s.clk.state ≠ .unset
      ∧ s.settings.shift.schedule[0]? = some ⟨0, some 3⟩ ∧ (0 : Nat) = s.clk.time.second
      ∧ (s.shift.markers[0]? = some (some 65535) ∧ dayLater s.clk.time.day 65535 = true) ∧ s.shift.state = .onShift
      ∧ (handingOver s).shift.state ≠ .onShift := ⟨scheduled_safe .primary, by decide⟩

theorem witness_ABoundaryFiresTheSchedule_not_due :
    let s := scheduled (atBoundary .free none (inRole .standby .reset))
    let fired : State := { s with shift := { s.shift with markers := [some 0] } }
    working fired = true ∧ fired.clk.boundaries ≠ 0 ∧ fired.clk.slot = none ∧ fired.settings.line.role = .standby
      ∧ fired.settings.shift.schedule[0]? = some ⟨0, some 3⟩ ∧ fired.shift.markers[0]? = some (some 0)
      ∧ dayLater fired.clk.time.day 0 = false ∧ (⟨0, some 3⟩ : Boundary).second ≠ 1 := by decide

/-- A forward step of one tick that ends on the boundary fires it; one that ends a tick before does not pass it. -/
theorem witness_ABoundaryFiresTheSchedule_report :
    let s := scheduled (atBoundary .free none (inRole .listen .reset))
    ShiftInv s ∧ 0 < tickDifference ⟨0, 0, 0⟩ ⟨65535, 86399, 9999999⟩ ∧ s.clk.state ≠ .unset
      ∧ (reportStep ⟨65535, 86399, 9999999⟩ ⟨0, 0, 0⟩ s).shift.markers = [some 0]
      ∧ (reportStep ⟨65535, 86399, 9999998⟩ ⟨65535, 86399, 9999999⟩ s).shift.markers = [some 65535]
      ∧ tickDifference ⟨65535, 86399, 9999999⟩ ⟨0, 0, 0⟩ ≤ 0 := ⟨scheduled_safe .listen, by decide⟩

/-- The boundary at second 0 of the day at a first date, and at a date ahead. -/
theorem witness_ABoundaryFiresTheSchedule_dated :
    let date := fun x => scheduled (atBoundary x (some ⟨812, 0, ⟨true, false, false, false⟩⟩) .reset)
    let first := date .unset
    let ahead := date .free
    working first = true ∧ first.clk.boundaries ≠ 0 ∧ datedState first ≠ .unset ∧ ShiftInv first
      ∧ first.settings.shift.schedule[0]? = some ⟨0, some 3⟩ ∧ (datedTime first).second = 0
      ∧ (first.shift.markers[0]? = some (some 65535) ∧ dayLater (datedTime first).day 65535 = true)
      ∧ first.shift.state = .onShift
      ∧ ((after .stationSecondBoundary first).shift.handover.map fun h => (h.openedBy, h.stamp))
          = some (.schedule 0 0, datedStamp first)
      ∧ ShiftInv ahead ∧ ahead.clk.time.fraction < 10000000 ∧ ahead.clk.state ≠ .unset ∧ datedTime ahead ≠ ahead.clk.time
      ∧ 0 < tickDifference (datedTime ahead) (lastTickBefore ahead.clk.time) := by
  have safe : ∀ x, ShiftInv (scheduled (atBoundary x (some ⟨812, 0, ⟨true, false, false, false⟩⟩) .reset)) := by
    intro x
    cases x <;> simp [ShiftInv, scheduled, atBoundary, State.reset, ShiftController.reset, gradeNow, ClockState.grade, Grade.rank]
  refine ⟨rfl, by decide, by decide, safe .unset, rfl, rfl, ⟨rfl, rfl⟩, rfl, ?_, safe .free, ?_⟩
  · decide
  · decide

/-- A clock in a discipline state with its counts. -/
def disciplined (x : ClockState) (acq lock : Nat) (s : State) : State :=
  let s := tracking s
  { s with clk := { s.clk with state := x, acqCount := acq, lockCount := lock } }

theorem witness_AMarkWithinTheLimitDisciplines :
    let s := tracking .reset
    working s = true ∧ s.clk.state = .tracking ∧ (9999900 : Nat) < 10000000
      ∧ ((9999900 : Int) - 10000000).natAbs ≤ s.settings.time.stepLimit
      ∧ s.clk.prevMark = some ⟨80, -10, .fibre, true⟩
      ∧ ((9999900 : Int) - 10000000).natAbs ≤ s.settings.time.lockLimit
      ∧ 7 ≤ s.clk.lockCount ∧ (disciplined .tracking 2 6 .reset).clk.lockCount < 7
      ∧ s.settings.time.lockLimit < (101 : Int).natAbs := by decide

/-- The other states of discipline, at the marks where they move: the second mark in ACQUIRING, twice the lock limit in LOCKED, the
stage of UNSET, an acquisition mark, and a mark past the step limit with steps not allowed. -/
theorem witness_AMarkWithinTheLimitDisciplines_states :
    let s := tracking .reset
    let forbidden : State := { s with settings := { s.settings with time := { s.settings.time with stepsAllowed := false } } }
    let staged : State := { s with clk := { s.clk with state := .unset, stage := .acquiring, lockCount := 0 } }
    (disciplined .acquiring 0 0 .reset).clk.acqCount = 0 ∧ 1 ≤ (disciplined .acquiring 1 0 .reset).clk.acqCount
      ∧ (disciplined .locked 2 8 .reset).clk.state = .locked
      ∧ (processMark ⟨200, .fibre, some 1⟩ (disciplined .locked 2 8 .reset)).clk.state = .locked
      ∧ (processMark ⟨201, .fibre, some 1⟩ (disciplined .locked 2 8 .reset)).clk.state = .tracking
      ∧ staged.clk.state = .unset ∧ staged.clk.stage = .acquiring ∧ staged.clk.state ≠ .tracking
      ∧ (processMark ⟨200, .fibre, none⟩ s).clk.state = .acquiring
      ∧ (disciplined .holdover 0 0 .reset).clk.state = .holdover
      ∧ forbidden.settings.time.stepsAllowed = false ∧ working forbidden = true
      ∧ (processMark ⟨4999999, .fibre, some 1⟩ forbidden).clk.slew = -500
      ∧ (processMark ⟨5000000, .fibre, some 1⟩ forbidden).clk.slew = 500 := by decide

/-- A clock in TRACKING that shows `time`, with a candidate. -/
def stepping (time : StationTime) (x : Option Candidate) : State :=
  let s := tracking .reset
  { s with clk := { s.clk with time := time, candidate := x } }

theorem witness_MarksPastTheLimitConfirmAStep :
    let s := stepping ⟨0, 0, 100020⟩ (some ⟨100001, 1⟩)
    working s = true ∧ s.clk.state = .tracking ∧ s.settings.time.stepsAllowed = true ∧ (100021 : Nat) < 5000000
      ∧ s.settings.time.stepLimit < 100021 ∧ s.clk.time.fraction < 10000000 ∧ s.clk.time.second < 86400
      ∧ s.clk.slot = none ∧ (stepping ⟨0, 0, 0⟩ none).clk.candidate = none
      ∧ s.clk.candidate = some ⟨100001, 1⟩ ∧ ((100021 : Int) - 100001).natAbs ≤ 20 ∧ 20 < ((100022 : Int) - 100001).natAbs
      ∧ (stepping ⟨0, 0, 0⟩ (some ⟨100001, 0⟩)).clk.candidate = some ⟨100001, 0⟩
      ∧ (s.clk.time.fraction : Int) - 100021 < 0 ∧ s.clk.time.second = 0
      ∧ (0 : Int) ≤ (s.clk.time.fraction : Int) - 100020 ∧ (disciplined .free 0 0 .reset).clk.state = .free := by decide

/-- The forward step: with P negative it reaches the next second at its last tick, and stays below it one tick sooner. -/
theorem witness_MarksPastTheLimitConfirmAStep_forward :
    let s := stepping ⟨0, 86399, 9899979⟩ (some ⟨-100001, 1⟩)
    let p : Int := 9899979 - 10000000
    p = -100021 ∧ s.settings.time.stepLimit < p.natAbs ∧ (p - -100001).natAbs ≤ 20
      ∧ 10000000 ≤ (s.clk.time.fraction : Int) - p ∧ 86399 ≤ s.clk.time.second
      ∧ ((9899978 : Nat) : Int) - p < 10000000 ∧ s.clk.secOut = none
      ∧ (processMark ⟨9899979, .fibre, some 1⟩ s).clk.time = ⟨1, 0, 0⟩ := by decide

/-- In UNSET the stage stands for the state; and a telegram in progress at a step is noted. -/
theorem witness_MarksPastTheLimitConfirmAStep_staged :
    let s := stepping ⟨0, 0, 100020⟩ (some ⟨100001, 1⟩)
    let staged := fun (x : Stage) => ({ s with clk := { s.clk with state := .unset, stage := x } } : State)
    let marked := fun (s : State) => processMark ⟨100021, .fibre, some 1⟩ s
    working (staged .tracking) = true ∧ (staged .tracking).clk.state = .unset ∧ (staged .tracking).clk.stage = .tracking
      ∧ (marked (staged .tracking)).clk.epoch = 1 ∧ (marked (staged .acquiring)).clk.stage = .acquiring
      ∧ (marked (staged .free)).clk.stage = .acquiring ∧ (marked (staged .free)).clk.epoch = 0
      ∧ ((marked (receiving .data 0 s)).tl.capture.map fun c => c.stepped) = some true := by decide

theorem witness_SilenceGrowthAndPulsesRunOut :
    let s := atSecond 3 (tracking .reset)
    let h : State := { clocked .holdover (atSecond 10 .reset) with pins := Pins.reset }
    let p : State := { atSecond 1 State.reset with clk := { (atSecond 1 State.reset).clk with secOut := some ⟨0, 1000000⟩ } }
    s.supply.stopped = false ∧ s.clk.silence = some 0 ∧ 30000000 ≤ since s 0 ∧ s.clk.state = .tracking
      ∧ h.supply.stopped = false ∧ h.clk.state = .holdover ∧ h.clk.growth = some ⟨0, 100000000⟩ ∧ 100000000 ≤ since h 0
      ∧ h.clk.u + 1 < 65535 ∧ working p = true ∧ 1000000 ≤ since p 0 ∧ p.clk.secOut = some ⟨0, 1000000⟩ := by decide

/-- A change of light at reading 0 that may be a glitch, `k` ticks ago, in a state of the recogniser whose phase began then less
`before` ticks. -/
def lit (r : Recogniser) (level : Level) (before k : Nat) : State :=
  let s := atTick k (noisy .reset)
  let began := (42949672960000000 - before) % 42949672960000000
  { s with
    pins := { s.pins with fibre := level }
    mq := { s.mq with
      recogniser := r, phaseStart := began, edge := some ⟨0, 0, false⟩, faultCounter := 30
      pattern := if r = .waitLow ∨ r = .waitRise then none else some ⟨began, 0, false⟩ } }

theorem witness_PatternsAreFollowedAndDiscarded :
    let s := lit .firstHigh .low 2000 499
    let z := lit .firstHigh .low 1999 500
    working State.reset = true ∧ State.reset.pins.fibre = .low ∧ State.reset.mq.recogniser = .waitLow
      ∧ State.reset.mq.pattern = none ∧ State.reset.mq.edge = none
      ∧ working s = true ∧ s.mq.edge = some ⟨0, 0, false⟩ ∧ since s 0 < 500
      ∧ s.mq.pattern = some ⟨42949672959998000, 0, false⟩ ∧ since s 42949672959998000 < 20000
      ∧ 500 ≤ since z 0 ∧ z.mq.recogniser = .firstHigh ∧ z.pins.fibre = .low
      ∧ 2000 ≤ elapsedBetween s.mq.phaseStart 0 ∧ ¬2000 ≤ elapsedBetween z.mq.phaseStart 0
      ∧ (lit .waitRise .high 0 500).mq.recogniser = .waitRise ∧ (lit .low .high 2000 500).pins.fibre = .high
      ∧ (lit .secondHigh .low 1999 500).mq.recogniser = .secondHigh ∧ z.mq.faultCounter ≤ 30 := by decide

/-- A pattern 2 ms old in each phase, and the second high that began too late for its 200 µs. -/
theorem witness_PatternsAreFollowedAndDiscarded_timeout :
    let s : State := { atTick 20000 (noisy .reset) with mq := { (noisy .reset).mq with recogniser := .firstHigh } }
    let z : State := { s with mq := { s.mq with recogniser := .secondHigh, phaseStart := 18001 } }
    working s = true ∧ s.mq.pattern = some ⟨0, 0, false⟩ ∧ 20000 ≤ since s 0 ∧ s.mq.edge = none
      ∧ s.mq.recogniser = .firstHigh ∧ 31 ≤ s.mq.faultCounter
      ∧ z.mq.recogniser = .secondHigh ∧ 18000 < elapsedBetween 0 z.mq.phaseStart := by decide

/-- A pattern of reference age one second whose second high has lasted 200 µs, with the given start tick. -/
def complete (tick : Nat) : State :=
  let s := atTick (tick + 8000) (atSecond 1 State.reset)
  { s with mq := { s.mq with
      recogniser := .secondHigh, pattern := some ⟨10000000 + tick, 0, false⟩, phaseStart := 10000000 + tick + 6000,
      fibreRef := some 0, fibrePresence := some 0, selected := .fibre } }

theorem witness_ACompletePatternIsAMarkOrAStray :
    let s := complete 5000
    working s = true ∧ s.mq.pattern = some ⟨10005000, 0, false⟩ ∧ s.mq.recogniser = .secondHigh
      ∧ 2000 ≤ since s s.mq.phaseStart ∧ elapsedBetween 10005000 s.mq.phaseStart + 2000 ≤ 20000 ∧ s.mq.edge = none
      ∧ s.mq.faulted = false ∧ s.settings.time.markWindow ≤ 50000
      ∧ s.mq.fibreRef = some 0 ∧ elapsedBetween 0 10005000 ≤ 1 * 10000000 + s.settings.time.markWindow
      ∧ 1 * 10000000 ≤ elapsedBetween 0 10005000 + s.settings.time.markWindow ∧ s.mq.selected = .fibre
      ∧ { s with mq := { s.mq with selected := .line } }.mq.selected ≠ .fibre
      ∧ 80000000 + s.settings.time.markWindow < elapsedBetween 42949672869999999 5000 := by decide

/-- A mark one tick past the window is a stray, whatever the streak: empty, of one, or of two that it follows or does not. -/
theorem witness_ACompletePatternIsAMarkOrAStray_strays :
    let z := complete 5001
    let streak := fun (x : List Reading) => ({ z with mq := { z.mq with streak := x } } : State)
    z.mq.fibreRef = some 0 ∧ elapsedBetween 0 10005001 ≤ 80000000 + z.settings.time.markWindow
      ∧ (∀ n, 1 ≤ n → n ≤ 8 → elapsedBetween 0 10005001 + z.settings.time.markWindow < n * 10000000
          ∨ n * 10000000 + z.settings.time.markWindow < elapsedBetween 0 10005001)
      ∧ z.mq.streak = [] ∧ z.mq.faultCounter ≤ 30
      ∧ (streak [5021]).mq.streak = [5021] ∧ elapsedBetween 5021 10005001 + 20 = 1 * 10000000
      ∧ elapsedBetween 5022 10005001 + 20 < 1 * 10000000
      ∧ (streak [42949672950005001, 5001]).mq.streak = [42949672950005001, 5001]
      ∧ elapsedBetween 42949672950005001 10005001 = 2 * 10000000
      ∧ { z with mq := { z.mq with pattern := some ⟨10005001, 0, true⟩ } }.mq.pattern = some ⟨10005001, 0, true⟩ := by
  refine ⟨by decide, by decide, ?_, by decide⟩
  intro n low high
  have hn : n ∈ [1, 2, 3, 4, 5, 6, 7, 8] := by simp; omega
  revert n
  decide

/-- A telegram of the part on the line, begun at reading 0, with the bits read. -/
def sending (k : Nat) (read : List Bool) : State :=
  let s := atTick k (receiving .own 0 .reset)
  { s with
    pins := { s.pins with timeLine := .high }
    tl := { s.tl with sendState := .sending, outgoing := some 0x2A032C00CB20BC, readBits := read } }

theorem witness_LineEdgesAndStartBits :
    let s := atTick 500 (receiving .start 0 .reset)
    let z : State := { s with pins := { s.pins with timeLine := .high } }
    working State.reset = true ∧ State.reset.pins.timeLine = .high ∧ lineLevel State.reset = .high
      ∧ State.reset.tl.receiver = .awaitHigh
      ∧ s.pins.timeLine = .low ∧ lineLevel { s with pins := { s.pins with timeLine := .high } } = .high
      ∧ working z = true ∧ z.tl.receiver = .start ∧ 500 ≤ since z 0 ∧ lineLevel z = .high
      ∧ z.tl.capture = some ⟨0, ⟨812, 52000, 0⟩, 0, .a, false, false⟩ ∧ lineLevel s = .low
      ∧ since (atTick 499 z) 0 < 500 := by decide

/-- The part pulls its start bit and its first two bits, which are 0, and releases its third, a 1, and all after bit 56. -/
theorem witness_LineEdgesAndStartBits_levels :
    lineLevel (sending 999 []) = .low ∧ lineLevel (sending 2999 []) = .low ∧ lineLevel (sending 3000 []) = .high
      ∧ lineLevel (sending 56999 []) = .low ∧ lineLevel (sending 57000 []) = .high
      ∧ (sending 0 []).tl.receiver = .own ∧ (sending 0 []).pins.timeLine = .high := by decide

/-- A safe line on which a telegram is heard: the bit due next, at the middle of its period. -/
theorem witness_LineEdgesAndStartBits_read :
    let s := atTick 1499 (receiving .data 0 .reset)
    LineInv s ∧ s.pending = [] ∧ working s = true ∧ lineLevel s = .low ∧ s.tl.receiver = .data
      ∧ s.tl.capture = some ⟨0, ⟨812, 52000, 0⟩, 0, .a, false, false⟩
      ∧ (tick s).tl.readBits = [false] ∧ (tick (atTick 1498 s)).tl.readBits = [] := by
  refine ⟨?_, by decide⟩
  simp [LineInv, lineLevel, partPulls, sendingNow, working, atTick, receiving, State.reset, TimeLine.reset,
    SupplyMonitor.reset]

/-- A telegram heard whole, its start edge at 200 µs of reading 1 s with the compensation `delay`, judged at elapsed second 1. -/
def heardWhole (bits : BitVec 56) (marks : Bool) (delay : Nat) : State :=
  let s := atTick 59000 (atSecond 1 (receiving .data 10002000 .reset))
  { s with
    tl := { s.tl with readBits := bitList bits }
    settings := { s.settings with line := { s.settings.line with lineMarks := marks, delay := delay } } }

theorem witness_ATelegramIsJudgedAtItsEnd :
    let s := heardWhole 0x2A032C00CB20BC false 2000
    SourceInv s ∧ working s = true ∧ s.tl.receiver = .data
      ∧ s.tl.capture = some ⟨10002000, ⟨812, 52000, 0⟩, 0, .a, false, false⟩ ∧ 57000 ≤ since s 10002000
      ∧ s.settings.time.markWindow ≤ 50000 ∧ s.settings.line.delay ≤ 2000 := by
  refine ⟨?_, ?_⟩
  · simp [SourceInv, selectable, Recogniser.inPattern, heardWhole, atTick, atSecond, receiving, State.reset, Settings.default,
      MarkQualifier.reset]
  · decide

/-- The bits of a valid telegram, of one with a bit changed, and of one a bit short. -/
theorem witness_ATelegramIsJudgedAtItsEnd_valid :
    let read := (heardWhole 0x2A032C00CB20BC false 0).tl.readBits
    read.length = 56 ∧ (1 ≤ numberOfBits ((read.drop 3).take 3) ∧ numberOfBits ((read.drop 3).take 3) ≤ 5)
      ∧ ((List.range 7).map fun k => numberOfBits ((read.drop (8 * k)).take 8)).sum % 256 = 0
      ∧ numberOfBits ((read.drop 24).take 24) < 86400
      ∧ judgeTelegram (heardWhole 0x2A032C00CB20BD false 0).tl.readBits = none ∧ judgeTelegram (read.drop 1) = none := by decide

/-- With line marks on and the fibre not selected the edge is a line mark: an acquisition, within the window of one second, and past
it, or overtaken by a step after its instant. -/
theorem witness_ATelegramIsJudgedAtItsEnd_mark :
    let s := heardWhole 0x2A032C00CB20BC true 0
    let against := fun (r : Reading) => ({ s with mq := { s.mq with lineRef := some r } } : State)
    let total := fun (s : State) => ((after (.telegramJudged (bitList 0x2A032C00CB20BC)) s).mq.totals.lineAccepted,
      (after (.telegramJudged (bitList 0x2A032C00CB20BC)) s).mq.totals.lineStrays)
    s.settings.line.lineMarks = true ∧ s.mq.selected ≠ .fibre ∧ total s = (1, 0)
      ∧ elapsedBetween 7000 10002000 + s.settings.time.markWindow = 1 * 10000000 ∧ total (against 7000) = (1, 0)
      ∧ total (against 7001) = (0, 1)
      ∧ total { s with mq := { s.mq with lastStep := some 10002001 } } = (0, 0)
      ∧ total { s with mq := { s.mq with lastStep := some 10002000 } } = (1, 0) := by decide

/-- An occupied slot that a line mark leaves, and one whose date the mark's own step forward across a boundary applies. -/
theorem witness_ATelegramIsJudgedAtItsEnd_slot :
    let s := heardWhole 0x2A032C00CB20BC true 0
    let dated := fun (x : StationTime) (f : Nat) (r : Option Reading) =>
      ({ s with
        clk := { (tracking s).clk with
          time := x, candidate := some ⟨-100001, 1⟩, slot := some ⟨7, 7, ⟨true, false, false, false⟩⟩ }
        mq := { s.mq with selected := .line, peerPresence := some 0, lineRef := r }
        tl := { s.tl with capture := some ⟨10002000, ⟨812, 52000, f⟩, 0, .d, false, false⟩ } } : State)
    let judged := fun (s : State) => after (.telegramJudged (bitList 0x2A032C00CB20BC)) s
    let stays := dated ⟨812, 52000, 57000⟩ 0 none
    let crosses := dated ⟨812, 52000, 9899980⟩ 9899979 (some 2000)
    SourceInv stays ∧ SourceInv crosses ∧ stays.clk.slot = some ⟨7, 7, ⟨true, false, false, false⟩⟩
      ∧ (judged stays).mq.totals.lineAccepted = 1 ∧ (judged stays).clk.epoch = stays.clk.epoch
      ∧ (judged stays).clk.slot = none
      ∧ (judged crosses).clk.epoch ≠ crosses.clk.epoch ∧ 9899979 ≤ crosses.clk.time.fraction
      ∧ (judged crosses).clk.time.second = 7
      ∧ ((judged crosses).clk.slot.map fun d => d.setters) = some ⟨false, false, false, true⟩ := by
  refine ⟨?_, ?_, ?_⟩
  · simp [SourceInv, selectable, Recogniser.inPattern, heardWhole, atTick, atSecond, receiving, State.reset, Settings.default,
      LineSettings.default, MarkQualifier.reset]
  · simp [SourceInv, selectable, Recogniser.inPattern, heardWhole, atTick, atSecond, receiving, State.reset, Settings.default,
      LineSettings.default, MarkQualifier.reset]
  · decide

theorem witness_ATelegramSentIsAValidTelegram : 86399 < 86400 := by decide

/-- What the part reads back of a telegram up to bit `n`: each bit as driven, but for the last, which reads 0. -/
def readBack (n : Nat) : List Bool := (bitList 0x2A032C00CB20BC).take (n - 1) ++ [false]

theorem witness_OutgoingTelegramsEnd :
    let bits : BitVec 56 := 0x2A032C00CB20BC
    let s := sending 57000 (bitList bits)
    working s = true ∧ s.tl.sendState = .sending ∧ s.tl.outgoing = some bits
      ∧ s.tl.capture = some ⟨0, ⟨812, 52000, 0⟩, 0, .a, false, false⟩ ∧ 57000 ≤ since s 0
      ∧ ¬(s.tl.readBits.getLast? = some false ∧ bits.getMsbD (s.tl.readBits.length - 1) = true)
      ∧ since (sending 56999 (bitList bits)) 0 < 57000 := by decide

/-- A 0 read where a 1 was driven, in byte 0 and past it; and the middle of a bit that the part pulls low, with the other parties
high. -/
theorem witness_OutgoingTelegramsEnd_differs :
    let bits : BitVec 56 := 0x2A032C00CB20BC
    let differs := fun (s : State) => s.tl.readBits.getLast? = some false ∧ bits.getMsbD (s.tl.readBits.length - 1) = true
    differs (sending 7500 (readBack 7)) ∧ (sending 7500 (readBack 7)).tl.readBits.length ≤ 8
      ∧ differs (sending 15500 (readBack 15)) ∧ 8 < (sending 15500 (readBack 15)).tl.readBits.length
      ∧ since (sending 500 []) 0 / 1000 = 0 ∧ 500 ≤ since (sending 500 []) 0 % 1000
      ∧ ¬500 ≤ since (sending 1499 []) 0 % 1000 ∧ bits.getMsbD 0 = false ∧ since (sending 1500 []) 0 / 1000 = 1
      ∧ (sending 1500 []).pins.timeLine = .high := by decide

theorem witness_TripEdgesMoveTheInput :
    let idle := { loose ⟨.idle, none, 0, none⟩ with pins := Pins.reset }
    let active := loose ⟨.active, none, 0, none⟩
    let glitch := loose ⟨.qualifying, some edge, 30, none⟩
    inputActive idle 5 = false ∧ working idle = true ∧ (idle.inputs.get 5).state = .idle
      ∧ inputActive active 5 = true ∧ working active = true ∧ (active.inputs.get 5).state = .active
      ∧ inputActive glitch 5 = true ∧ (glitch.inputs.get 5).state = .qualifying ∧ (glitch.inputs.get 5).score < 31
      ∧ working retained = false ∧ inputActive retained 5 = false := by decide

/-- The glitch that brings the score to 32. -/
theorem witness_TripEdgesMoveTheInput_blocks :
    let s := loose ⟨.qualifying, some edge, 31, none⟩
    let t := after (.tripTrailingEdge 5) s
    inputActive s 5 = true ∧ working s = true ∧ (s.inputs.get 5).state = .qualifying ∧ 31 ≤ (s.inputs.get 5).score
      ∧ (s.inputs.get 5).score ≤ 32 ∧ (t.inputs.get 5).state = .blocked ∧ (t.inputs.get 5).score = 32
      ∧ hasKind (s.settings.notice.get .a).enable .chatterBlock = true := by decide

theorem witness_QualifiedEdgesAreLogged :
    let s := loose ⟨.qualifying, some edge, 31, some 10000000000⟩
    let r := loose ⟨.releasing, some edge, 31, none⟩
    working s = true ∧ (s.inputs.get 5).state = .qualifying ∧ (s.inputs.get 5).capture = some edge
      ∧ edge.tq * 1000 ≤ since s edge.reading
      ∧ elapsedBetween 10000000000 edge.reading < s.settings.inputs.chatter * 1000000
      ∧ (r.inputs.get 5).state = .releasing ∧ (r.inputs.get 5).capture = some edge
      ∧ (r.settings.inputs.inputs.get 5).logReleases = false := by decide

/-- A filter that every assert of unit 0 matches, with all three actions. -/
def filtered (s : State) : State :=
  { s with settings := { s.settings with inputs := { s.settings.inputs with
      filters := s.settings.inputs.filters.set 0 ⟨0, 0, 0x1FF, ⟨true, true, true⟩⟩ } } }

/-- An assert of input 5 for unit 0, at an epoch. -/
def assertAt (epoch : BitVec 8) : Assert :=
  { input := 5, unit := 0, code := 9, stamp := { FullStamp.cold epoch with epoch := epoch }, seq := 3, shift := 2 }

/-- A table of one record, with the filter, its invariants included. -/
theorem burst_filtered (x : BurstState) : BurstInv (filtered (bursting x .reset)) ∧ QueueSafe (filtered (bursting x .reset)) := by
  cases x <;>
    simp [BurstInv, QueueSafe, bursting, filtered, record, State.reset, Config.burstPlaces, BurstRecord.holds, working,
      SupplyMonitor.reset, TallyStore.reset]

/-- An assert that joins a FORMING record earlier than its first-out, one that reopens an acknowledged OPEN record, and one that
opens a burst beside a CLOSED one, each with a fault trip counted. -/
theorem witness_QualifiedEdgesAreLogged_bursts :
    let forming := filtered (bursting .forming .reset)
    let known := filtered { State.reset with bursts :=
      { BurstTable.reset with records := [{ record .opened with ack := some .b }], openRef := some 7 } }
    let closed := filtered (bursting .closed .reset)
    let taken := fun (epoch : BitVec 8) (s : State) => (takeAssert (assertAt epoch) s).2
    (BurstInv forming ∧ QueueSafe forming) ∧ BurstInv known ∧ (BurstInv closed ∧ QueueSafe closed)
      ∧ working forming = true ∧ record .forming ∈ forming.bursts.records
      ∧ ((taken 255 forming).bursts.records.map fun r => (r.firstOut.input, r.asserts)) = [(5, 2)]
      ∧ ((taken 1 forming).bursts.records.map fun r => r.firstOut.input) = [0]
      ∧ ((taken 0 forming).units.get 0).counts.faults = 1
      ∧ ((taken 0 known).bursts.records.map fun r => (r.ack, r.actions.faultTrip)) = [(none, true)]
      ∧ hasKind ((taken 0 known).notices.get .c).pending .burstReopened = true ∧ (taken 0 known).shift.holdCount = 1
      ∧ closed.bursts.records.length < 32 ∧ (taken 0 closed).bursts.openRef = some 8
      ∧ (taken 0 closed).bursts.holdCount = 2 := by
  refine ⟨burst_filtered .forming, ?_, burst_filtered .closed, ?_⟩
  · simp [BurstInv, filtered, record, State.reset, BurstTable.reset, Config.burstPlaces, BurstRecord.holds, working,
      SupplyMonitor.reset, ShiftController.reset]
  · decide

/-- A full table of CLOSED records, numbered from 0, acknowledged from number `k` on. -/
def crowded (k : Nat) : State :=
  { State.reset with
    bursts := { BurstTable.reset with
      records := (List.range 32).map fun n =>
        { record .closed with number := BitVec.ofNat 16 n, ack := if k ≤ n then some .a else none }
      holdCount := k }
    shift := { ShiftController.reset with holdCount := k } }

/-- With one record acknowledged an assert takes its place; with none it joins the newest. -/
theorem witness_QualifiedEdgesAreLogged_crowded :
    let taken := fun (k : Nat) => takeAssert (assertAt 0) (crowded k)
    BurstInv (crowded 31) ∧ BurstInv (crowded 32) ∧ QueueSafe (crowded 32) ∧ (crowded 32).bursts.records.length = 32
      ∧ (taken 31).2.bursts.openRef = some 31 ∧ (taken 31).2.bursts.records.length = 32
      ∧ (taken 32).1 = 31 ∧ (taken 32).2.bursts.openRef = none
      ∧ ((taken 32).2.bursts.records.getLast?.map fun r => (r.overflowJoined, r.asserts)) = some (true, 2) := by
  refine ⟨⟨by decide, by decide, by decide, ?_, by decide⟩, ⟨by decide, by decide, by decide, ?_, by decide⟩, ?_, by decide⟩
  · intro n h
    cases h
  · intro n h
    cases h
  · simp [QueueSafe, crowded, State.reset, TallyStore.reset]

theorem witness_AnEntryJoinsTheRing :
    LogInv (logged .reset) ∧ (logged .reset).log.ring.length < 1024 := ⟨log_safe _, by decide⟩

/-- A full ring: 1,024 entries numbered from 0. -/
def fullRing : State :=
  { State.reset with log := { TripLog.reset with
      ring := (List.range 1024).map fun k => { seq := BitVec.ofNat 16 k, stamp := .cold 0, shift := 0, body := .chatterBlock 0 8 }
      nextSeq := 1024 } }

theorem witness_AnEntryJoinsTheRing_full :
    LogInv fullRing ∧ fullRing.log.ring.length = 1024 ∧ fullRing.log.cursors.get .a = fullRing.log.nextSeq - 1024 := by
  refine ⟨⟨by simp [fullRing, Config.ringSize], ?_, ?_⟩, by simp [fullRing], rfl⟩
  · simp [fullRing, Function.comp_def]
  · intro p
    cases p <;> simp [fullRing, TripLog.reset, PerPort.get]

/-- Its oldest entry stands at the head of the ring, and is the entry removed. -/
theorem witness_AnEntryJoinsTheRing_oldest :
    ∃ old rest, fullRing.log.ring = old :: rest ∧ ∀ i u code number resumed, old.body ≠ .tripAssert i u code number resumed := by
  have split : List.range 1024 = 0 :: (List.range 1023).map Nat.succ := List.range_succ_eq_map
  refine ⟨_, _, by simp only [fullRing, split, List.map_cons]; rfl, ?_⟩
  intro i u code number resumed h
  cases h

theorem witness_InputSettingsAndBlocks :
    let blocked := framed .a (loose ⟨.blocked, none, 32, none⟩)
    let args : List Byte := [15, 1, 1, 8, 63, 255, 1]
    Ready .a blocked ∧ args.length = 7 ∧ (15 : Fin 16).val = argNumber args 0 1
      ∧ (8 : Fin 9).val = argNumber args 3 1 ∧ argNumber args 4 1 < 64
      ∧ argNumber args 6 1 ≤ 1 ∧ 16 ≤ argNumber [16, 1, 1, 8, 63, 255, 1] 0 1
      ∧ ([5] : List Byte).length = 1 ∧ (5 : Fin 16).val = argNumber [5] 0 1 ∧ 16 ≤ argNumber [16] 0 1
      ∧ (blocked.inputs.get 5).state = .blocked ∧ inputActive blocked 5 = true
      ∧ inputActive { blocked with pins := Pins.reset } 5 = false ∧ (ready.inputs.get 5).state ≠ .blocked := by
  refine ⟨ready_framed .a _ (by decide) rfl, ?_⟩
  decide

theorem witness_BurstWindowsAndGapsEnd :
    let forming := atTick 300000 (framed .a (bursting .forming .reset))
    let opened := atTick 5000000 (framed .a (bursting .opened .reset))
    BurstInv opened ∧ BurstInv forming ∧ Ready .a opened ∧ ([1, 0xF4] : List Byte).length = 2
      ∧ record .opened ∈ opened.bursts.records ∧ (record .opened).state = .opened
      ∧ opened.settings.inputs.burstGap * 10000 ≤ since opened (record .opened).lastJoin
      ∧ since (atTick 4999999 opened) (record .opened).lastJoin < opened.settings.inputs.burstGap * 10000
      ∧ working forming = true ∧ record .forming ∈ forming.bursts.records
      ∧ (record .forming).state = .forming ∧ 300000 ≤ since forming (record .forming).opening := by
  refine ⟨burst_safe .opened .a, burst_safe .forming .a, ⟨rfl, by decide, rfl⟩, ?_⟩
  decide

theorem witness_AckBurstAcknowledges :
    let s := framed .a (bursting .opened .reset)
    BurstInv s ∧ Ready .a s ∧ ([0, 7] : List Byte).length = 2 ∧ record .opened ∈ s.bursts.records
      ∧ (record .opened).number.toNat = argNumber [0, 7] 0 2 ∧ (record .opened).state ≠ .forming
      ∧ (record .opened).ack = none ∧ (∀ r ∈ s.bursts.records, r.number.toNat ≠ argNumber [0, 6] 0 2)
      ∧ s.shift.handover = none := by
  refine ⟨burst_safe .opened .a, ⟨rfl, by decide, rfl⟩, ?_⟩
  decide

/-- Unit 6 settling into GENERATING from STARTING. -/
def settling : State :=
  let s := atSecond 2 State.reset
  { s with units := s.units.set 6 { MachineUnit.reset with
      raw := some .generating, candidate := some .generating, mode := some .starting } }

theorem witness_UnitCodesSettleIntoModes :
    unitCode State.reset 6 ≠ 1 ∧ working State.reset = true ∧ isFitted State.reset 6 = true
      ∧ (State.reset.units.get 6).raw ≠ some (State.reset.settings.tally.modeTable.get 1)
      ∧ working settling = true ∧ isFitted settling 6 = true ∧ (settling.units.get 6).candidate = some .generating
      ∧ settling.settings.tally.settle * 1000000 ≤ since settling (settling.units.get 6).settleStart := by decide

/-- A start counted in count and delta, and one of a saturated count, which asks for the record all the same. -/
theorem witness_UnitCodesSettleIntoModes_counts :
    let full : State := { settling with
      units := settling.units.set 6 { settling.units.get 6 with counts := ⟨4294967295, 0, 0, 0⟩ } }
    let t := after (.settleExpiry 6) settling
    let u := after (.settleExpiry 6) full
    (t.units.get 6).counts.genStarts = 1 ∧ (t.units.get 6).deltas.counts.genStarts = 1 ∧ t.store.program ≠ none
      ∧ (full.units.get 6).candidate = some .generating ∧ (u.units.get 6).counts.genStarts = 4294967295
      ∧ (u.units.get 6).deltas.counts.genStarts = 0 ∧ u.store.program ≠ none := by decide

theorem witness_TalliesGrowAndServiceFallsDue :
    let s : State := { State.reset with clk := { TimeBase.reset with tenths := 1 } }
    let due : State := { overhaul with
      units := overhaul.units.set 2 { overhaul.units.get 2 with serviceDue := false }
      settings := { overhaul.settings with tally := { overhaul.settings.tally with
        limits := overhaul.settings.tally.limits.set 2 8211004 } } }
    working s = true ∧ s.clk.tenths ≠ 0 ∧ isFitted s 0 = true ∧ (s.units.get 0).mode = some .standstill
      ∧ isFitted due 2 = true ∧ due.settings.tally.limits.get 2 ≠ 0 ∧ (due.units.get 2).serviceDue = false
      ∧ due.settings.tally.limits.get 2 ≤ (due.units.get 2).runningTotal := by decide

/-- A running tally at its top seconds, a tenth short of saturation and saturated. -/
theorem witness_TalliesGrowAndServiceFallsDue_top :
    let running := fun (tenths : Nat) =>
      let x : MachineUnit := { MachineUnit.reset with
        mode := some .generating, tallies := ModeTallies.zero.put .generating ⟨4294967295, tenths⟩ }
      ({ State.reset with clk := { TimeBase.reset with tenths := 1 }, units := State.reset.units.set 1 x } : State)
    let grown := fun (tenths : Nat) => (after .elapsedTenth (running tenths)).units.get 1
    isFitted (running 8) 1 = true ∧ (running 8).clk.tenths ≠ 0
      ∧ (grown 8).tallies.generating = ⟨4294967295, 9⟩ ∧ (grown 8).deltas.generating = ⟨0, 1⟩
      ∧ (grown 9).tallies.generating = ⟨4294967295, 9⟩ ∧ (grown 9).deltas.generating = ⟨0, 0⟩ := by decide

theorem witness_UnitSettingsAreWritten :
    Ready .a ready ∧ UnitsInv ready ∧ (List.replicate 16 (6 : Byte)).length = 16
      ∧ (∀ b ∈ List.replicate 16 (6 : Byte), b.toNat ≤ 6) ∧ 7 ≤ (7 : Byte).toNat
      ∧ ([0, 255, 1, 44] : List Byte).length = 4 ∧ argNumber [0, 255, 1, 44] 0 2 < 256 ∧ 256 ≤ argNumber [1, 0, 1, 44] 0 2
      ∧ ([7, 0, 0, 0, 1] : List Byte).length = 5 ∧ argNumber [7, 0, 0, 0, 1] 0 1 = (7 : Fin 8).val
      ∧ 8 ≤ argNumber [8, 0, 0, 0, 1] 0 1 ∧ ([7, 10, 0, 0, 0, 1] : List Byte).length = 6
      ∧ argNumber [7, 10, 0, 0, 0, 1] 1 1 ≤ 10 ∧ 11 ≤ argNumber [7, 11, 0, 0, 0, 1] 1 1
      ∧ heldByOther ready .a .tally = false ∧ isFitted ready 7 = true ∧ (ready.units.get 7).mode = some .standstill
      ∧ (ready.units.get 7).candidate = none := by
  refine ⟨ready_a, units_safe, ?_⟩
  decide

/-- PRESET TALLY with the TALLY group held by another port. -/
theorem witness_UnitSettingsAreWritten_locked :
    Ready .a (lockedByB ready) ∧ ([7, 10, 0, 0, 0, 1] : List Byte).length = 6
      ∧ heldByOther (lockedByB ready) .a .tally = true := ⟨⟨rfl, by decide, rfl⟩, rfl, by decide⟩

/-- A program of unit 2's record, begun at reading 0. -/
def writing (k : Nat) : State :=
  let s := atTick k State.reset
  let x : Program :=
    { content := .unit 2 (s.units.get 2).record, copy := .one, counter := 1, emergency := false, retry := false, start := 0 }
  { s with store := { s.store with program := some x } }

theorem witness_RequestsAndCommitTimers :
    QueueSafe ready ∧ QueueSafe (atSecond 360 State.reset) ∧ working (atSecond 360 State.reset) = true
      ∧ (atSecond 360 State.reset).store.interval = some ⟨0, 3600000000⟩ ∧ 3600000000 ≤ since (atSecond 360 State.reset) 0
      ∧ (atSecond 3600 State.reset).store.hourly = some 0 ∧ 36000000000 ≤ since (atSecond 3600 State.reset) 0
      ∧ (∀ q ∈ ready.store.queue, q.record ≠ .settings) ∧ ready.store.program = none ∧ (writing 0).store.program ≠ none := by
  refine ⟨queue_safe .a, queue_safe .a, ?_⟩
  decide

/-- The copies of the time record: both valid with copy 2 the later across the top of the counter, both valid with copy 1 the later,
one valid, none. -/
theorem witness_RequestsAndCommitTimers_copies :
    let asked := fun (v w : Bool) (a b : BitVec 16) =>
      (request .time { State.reset with store := { TallyStore.reset with
        timeRecord := { one := ⟨⟨0, 0⟩, a, v⟩, two := ⟨⟨0, 0⟩, b, w⟩ } } }).store.program.map fun x => (x.copy, x.counter)
    asked true true 65535 0 = some (.one, 1) ∧ asked true true 0 32767 = some (.one, 32768)
      ∧ asked true true 0 32768 = some (.two, 1) ∧ asked true true 9 9 = some (.two, 10)
      ∧ asked true false 65535 3 = some (.two, 0) ∧ asked false true 4 5 = some (.one, 6)
      ∧ asked false false 4 5 = some (.one, 1) := by decide

/-- A program of the given content, begun at reading 0, one tick ago; a settings program has port A bound to it. -/
def programmed (x : Content) : State :=
  let s := writing 1
  let bound : PortCtl := { PortCtl.reset with state := .executing, binding := some .program }
  let program : Program := { content := x, copy := .two, counter := 7, emergency := false, retry := true, start := 0 }
  let s : State := { s with store := { s.store with program := some program } }
  if x.record = .settings then s.withPort .a bound else s

theorem programmed_safe (x : Content) : StoreInv (programmed x) := by
  unfold programmed
  split <;> refine ⟨?_, ?_⟩
  case isTrue.refine_1 | isFalse.refine_1 =>
    simp [QueueSafe, writing, atTick, State.reset, TallyStore.reset, working, SupplyMonitor.reset, State.withPort]
  all_goals
    intro p
    cases p <;>
      simp [PortSafe, writing, atTick, State.reset, State.withPort, PerPort.get, PerPort.set, PortCtl.reset, working,
        SupplyMonitor.reset, *]

theorem witness_AProgramEndCommitsOrSpoils (x : Content) :
    let s := programmed x
    StoreInv s ∧ working s = true ∧ 0 < since s 0 ∧ s.store.queue = []
      ∧ s.store.program = some { content := x, copy := .two, counter := 7, emergency := false, retry := true, start := 0 } := by
  refine ⟨programmed_safe x, ?_⟩
  unfold programmed
  split <;> exact ⟨rfl, (by decide : 0 < since (writing 1) 0), rfl, rfl⟩

/-- A content of each kind, and a settings program to which port A is bound. -/
theorem witness_AProgramEndCommitsOrSpoils_kinds :
    (Content.time ⟨0, 0⟩).record = .time ∧ (Content.currentShift (.fallback 0)).record = .currentShift
      ∧ (Content.shiftRecord none).record = .shiftRecord ∧ (Content.settings .default).record = .settings
      ∧ ((programmed (.settings .default)).ports.get .a).binding = some .program := by decide

theorem witness_SupplyCrossingsMoveTheState :
    let low : State := { supplied .warning (some 0) .reset with pins := { Pins.reset with supply := .belowRestore } }
    let returning := atTick 1000000 (supplied .warning (some 0) .reset)
    State.reset.supply.stopped = false ∧ State.reset.pins.supply = .atRestore ∧ State.reset.supply.state = .normal
      ∧ low.pins.supply = .belowRestore
      ∧ State.reset.store.program = none ∧ (writing 0).store.program ≠ none ∧ low.pins.supply ≠ .atRestore
      ∧ low.supply.state ≠ .normal ∧ returning.supply.state = .warning ∧ returning.supply.restore = some 0
      ∧ 1000000 ≤ since returning 0 := by decide

theorem witness_RetainEntryStopsTheBlocks :
    let s := supplied .warning none (bursting .opened .reset)
    BurstInv s ∧ s.supply.stopped = false ∧ s.supply.state = .warning ∧ s.pins.supply ≠ .belowLow
      ∧ s.supply.cellLost = false := by
  refine ⟨?_, by decide⟩
  simp [BurstInv, supplied, bursting, record, State.reset, Config.burstPlaces, BurstRecord.holds, working,
    SupplyMonitor.reset]

/-- From NORMAL, with a program in progress torn and the emergency queue dropped; and the falls that only stop the restore timer,
or are none. -/
theorem witness_RetainEntryStopsTheBlocks_normal :
    let s := writing 5
    let t := after .retainEntry s
    let low : State := { retained with pins := { Pins.reset with supply := .belowLow } }
    BurstInv s ∧ s.supply.state = .normal ∧ s.pins.supply ≠ .belowLow ∧ s.supply.cellLost = false ∧ s.store.program ≠ none
      ∧ t.supply.warnings = 1 ∧ t.store.counts.torn = 1 ∧ t.store.counts.dropped = 2
      ∧ (t.store.unitRecords.get 2).one.valid = false
      ∧ retained.supply.state = .retain ∧ retained.pins.supply ≠ .belowLow ∧ retained.supply.stopped = false
      ∧ low.pins.supply = .belowLow := by
  refine ⟨?_, by decide⟩
  simp [BurstInv, writing, atTick, State.reset, BurstTable.reset, Config.burstPlaces, ShiftController.reset, working,
    SupplyMonitor.reset]

theorem witness_WarmStartResumesTheBlocks :
    let s := atTick 1000000 (supplied .retain (some 0) retained)
    let g : GapStart := { time := ⟨0, 0, 0⟩, epoch := 0, grade := .e, u := 65535 }
    let s : State := { s with supply := { s.supply with gapStart := some g } }
    QueueSafe s ∧ LineInv s ∧ s.supply.stopped = false ∧ s.supply.state = .retain ∧ s.supply.restore = some 0
      ∧ 1000000 ≤ since s 0 ∧ s.supply.gapStart = some g ∧ s.mq.selected = .noSource ∧ s.pins.timeLine = .high := by
  refine ⟨?_, ?_, by decide⟩
  · simp [QueueSafe, supplied, retained, atTick, TallyStore.reset]
  · simp [LineInv, lineLevel, partPulls, sendingNow, working, supplied, retained, atTick, TimeLine.reset]

theorem witness_ALostCellAndTheColdStart :
    let lost := after .backupCellLost retained
    retained.supply.stopped = false ∧ retained.supply.state = .retain ∧ State.reset.supply.state ≠ .retain
      ∧ lost.supply.stopped = true ∧ lost.pins.supply = .atRestore
      ∧ (∀ p, lost.notices.get p = { pending := 1, holdoff := none, attention := true })
      ∧ (∀ p, (after .retainEntry lost).notices.get p = { pending := 0, holdoff := none, attention := false })
      ∧ lost.store.settingsRecord.valid = false ∧ lost.store.timeRecord.later = none := by
  refine ⟨by decide, by decide, by decide, by decide, by decide, ?_, ?_, by decide⟩ <;> intro p <;> cases p <;> decide

/-- A cell lost outside RETAIN stops the part at the next RETAIN entry. -/
theorem witness_ALostCellAndTheColdStart_stops :
    let s := after .backupCellLost .reset
    s.supply.stopped = false ∧ s.supply.state ≠ .retain ∧ s.supply.cellLost = true ∧ s.pins.supply ≠ .belowLow
      ∧ (after .retainEntry s).supply.stopped = true := by decide

/-- Records to load: a settings record with a value past its range, the later copy of the others, and two slots. -/
def stored : State :=
  let s := after .backupCellLost retained
  let old := Settings.default
  { s with store := { s.store with
      settingsRecord := { content := { old with time := { old.time with kp := 9 } }, valid := true }
      timeRecord := { s.store.timeRecord with two := { content := ⟨-250000, 5⟩, counter := 0, valid := true } }
      shiftContent := { s.store.shiftContent with one := { content := { ShiftContent.fallback 4 with number := 20 }, counter := 65535, valid := true } } } }

theorem witness_ALostCellAndTheColdStart_records :
    let t := after .coldStart stored
    stored.supply.stopped = true ∧ stored.pins.supply = .atRestore ∧ stored.store.settingsRecord.valid = true
      ∧ stored.store.timeRecord.later = some .two ∧ stored.store.shiftContent.later = some .one
      ∧ t.settings.time.kp = 6 ∧ t.clk.trim = -200000 ∧ t.clk.epoch = 5 ∧ t.shift.current.number = 20
      ∧ t.shift.current.start.epoch = 4 := by decide

theorem witness_LineResetStopsThePorts :
    ready.pins.resetN = .high ∧ working ready = true ∧ retained.pins.resetN = .high ∧ working retained = false := by decide

theorem witness_HandoversOpenFallOverdueAndAreCancelled :
    let s := handingOver (atSecond 1800 State.reset)
    Ready .a ready ∧ Ready .a (framed .a s) ∧ ready.shift.state = .onShift ∧ s.shift.state = .handoverOpen
      ∧ working s = true ∧ s.shift.handover = some handover
      ∧ s.settings.shift.window * 600000000 ≤ since s handover.reading := by
  refine ⟨ready_a, ready_framed .a _ (by decide) rfl, ?_⟩
  decide

theorem witness_HandoverCommandsAreJudged :
    let s := framed .a (handingOver .reset)
    Ready .a s ∧ ([3] : List Byte).length = 1 ∧ argNumber [15] 0 1 < 16 ∧ 16 ≤ argNumber [16] 0 1
      ∧ s.shift.state ≠ .onShift ∧ s.shift.handover = some handover ∧ s.shift.holdCount = 0
      ∧ (BitVec.ofNat 4 (argNumber [3] 0 1) ≠ s.shift.current.crew
          ∧ handover.expected = some (BitVec.ofNat 4 (argNumber [3] 0 1)))
      ∧ handover.expected ≠ some (BitVec.ofNat 4 (argNumber [4] 0 1)) ∧ handover.released ≠ none
      ∧ ready.shift.state = .onShift := by
  refine ⟨ready_framed .a _ (by decide) rfl, ?_⟩
  decide

/-- A released and accepted handover that one held burst keeps from completing. -/
theorem witness_HandoverCommandsAreJudged_held :
    let h : Handover := { handover with accepted := some ⟨3, .c⟩ }
    let s := framed .a (bursting .opened .reset)
    let s : State := { s with shift := { s.shift with state := .handoverOpen, handover := some h } }
    BurstInv s ∧ Ready .a s ∧ ([0, 7] : List Byte).length = 2 ∧ record .opened ∈ s.bursts.records
      ∧ (record .opened).number.toNat = argNumber [0, 7] 0 2 ∧ (record .opened).state ≠ .forming ∧ (record .opened).ack = none
      ∧ (record .opened).actions.holdHandover = true ∧ s.bursts.holdCount = 1 ∧ s.shift.handover = some h
      ∧ h.released ≠ none ∧ h.accepted = some ⟨3, .c⟩ := by
  refine ⟨burst_safe .opened .a, ⟨rfl, by decide, rfl⟩, ?_⟩
  decide

theorem witness_ACompletionBuildsTheRecord : working ready = true ∧ QueueSafe ready := ⟨rfl, queue_safe .a⟩

theorem witness_ScheduleAndShiftTimesAreWritten :
    let one : List Byte := [1, 1, 0x51, 0x7F, 15]
    let overdue := framed .a (handingOver (atSecond 60 State.reset))
    Ready .a ready ∧ Ready .a overdue ∧ argNumber one 0 1 = 1 ∧ one.length = 1 + 4 * 1 ∧ argNumber one 1 3 < 86400
      ∧ argNumber one 4 1 ≤ 15 ∧ ¬ argNumber [1, 1, 0x51, 0x80, 15] 1 3 < 86400 ∧ ([1, 5] : List Byte).length = 2
      ∧ overdue.shift.state = .handoverOpen ∧ overdue.shift.handover = some handover
      ∧ min 120 (max 1 (argNumber [1, 5] 0 1)) * 600000000 ≤ since overdue handover.reading := by
  refine ⟨ready_a, ready_framed .a _ (by decide) rfl, ?_⟩
  decide

theorem witness_NoticesArePostedClearedAndSet :
    Ready .a ready ∧ working ready = true ∧ (ready.settings.notice.get .b).enable.getLsbD NoticeKind.burst.number = true
      ∧ working retained = false ∧ ([0x1F, 0xFF, 0xFF] : List Byte).length = 3 ∧ argNumber [0x1F, 0xFF, 0xFF] 0 3 < 2097152
      ∧ 2097152 ≤ argNumber [0x20, 0, 0] 0 3 ∧ (ready.settings.notice.get .a).holdoff ≠ 0
      ∧ ([2, 0x1F, 0xFF, 0xFF, 1, 0xFF, 3, 0xE8] : List Byte).length = 8
      ∧ argNumber [2, 0x1F, 0xFF, 0xFF, 1, 0xFF, 3, 0xE8] 0 1 = portCode (some .b)
      ∧ argNumber [2, 0x1F, 0xFF, 0xFF, 1, 0xFF, 3, 0xE8] 4 2 < 512 ∧ heldByOther ready .a .notice = false
      ∧ heldByOther (lockedByB ready) .a .notice = true ∧ 4 ≤ argNumber [4, 0, 0, 0, 0, 0, 0, 0] 0 1 := by
  refine ⟨ready_a, ?_⟩
  decide

end Sys2Proof.Machine.Tests
end

section
/-! SUPPORT. What an operation must leave for the Mark Qualifier to stay safe, and what the port commands leave. -/

namespace Sys2Proof.Machine.SourceLaws

set_option Elab.async false

/-! ### What SourceInv reads -/

/-- From `s` to `t` nothing changes that SourceInv reads, but that the part may begin to work. -/
def LeavesSource (s t : State) : Prop :=
  t.mq = s.mq ∧ t.settings.line.lineMarks = s.settings.line.lineMarks ∧ (working t = false → working s = false)

theorem LeavesSource.refl (s : State) : LeavesSource s s := ⟨rfl, rfl, id⟩

/-- An operation that touches neither the Mark Qualifier nor the settings nor the supply leaves the source. -/
theorem leavesSource_of_touches {bs : List Block} {s t : State} (h : Touches bs s t) (hmq : .mq ∉ bs := by decide)
    (hset : .settings ∉ bs := by decide) (hsup : .supply ∉ bs := by decide) : LeavesSource s t := by
  have settings : t.settings = s.settings := h.same .settings hset
  have supply : t.supply = s.supply := h.same .supply hsup
  exact ⟨h.same .mq hmq, by rw [settings], by rw [working_congr supply]; exact id⟩

/-- An operation of the other blocks, made after a part that leaves the source. -/
theorem leavesSource_after {bs : List Block} {s t u : State} (k : Touches bs t u) (h : LeavesSource s t)
    (hmq : .mq ∉ bs := by decide) (hset : .settings ∉ bs := by decide) (hsup : .supply ∉ bs := by decide) :
    LeavesSource s u := by
  obtain ⟨hm, hl, hwork⟩ := h
  obtain ⟨km, kl, kwork⟩ := leavesSource_of_touches k hmq hset hsup
  exact ⟨km.trans hm, kl.trans hl, fun w => hwork (kwork w)⟩

/-- What R38 selects depends on the Mark Qualifier and on whether line marks are taken. -/
theorem selectable_congr {s t : State} (hmq : t.mq = s.mq)
    (hset : t.settings.line.lineMarks = s.settings.line.lineMarks) : selectable t = selectable s := by
  unfold selectable
  rw [hmq, hset]

theorem LeavesSource.keeps {s t : State} (h : LeavesSource s t) (hs : SourceInv s) : SourceInv t := by
  obtain ⟨hmq, hset, hwork⟩ := h
  obtain ⟨selected, faulted, clear, pattern, streak, edge⟩ := hs
  unfold SourceInv
  rw [hmq, selectable_congr hmq hset]
  exact ⟨selected, faulted, clear, pattern, streak, fun w => edge (hwork w)⟩

/-- What an operation of the other blocks touches is no concern of the source. -/
theorem sourceInv_of_touches {bs : List Block} {s t : State} (hs : SourceInv s) (h : Touches bs s t)
    (hmq : .mq ∉ bs := by decide) (hset : .settings ∉ bs := by decide) (hsup : .supply ∉ bs := by decide) : SourceInv t :=
  (leavesSource_of_touches h hmq hset hsup).keeps hs

/-! ### The frames of a port -/

theorem atRise_source {p : Port} {take : State → State} {s : State} (htake : ∀ u, SourceInv u → SourceInv (take u))
    (hs : SourceInv s) : SourceInv (atRise p take s) := by
  have ended : SourceInv (endTransaction p s) := sourceInv_of_touches hs (endTransaction_touches p s)
  unfold atRise
  split
  · exact hs
  · dsimp only
    split
    · exact ended
    · split
      · exact sourceInv_of_touches (bs := [.ports]) ended .write
      · exact htake _ ended

theorem answerPort_source {p : Port} {x : Status} {r : Result} {s : State} (hs : SourceInv s) :
    SourceInv (answerPort p x r s) := sourceInv_of_touches hs (answerPort_touches p x r s)

/-- A command's frame keeps the source safe when the command's own block does. -/
theorem carryOut_source {p : Port} {args : List Byte} {good : Bool} {body : State → Reply} {s : State}
    (hbody : ∀ u, SourceInv u → SourceInv (body u).state) (hs : SourceInv s) : SourceInv (carryOut p args good body s) := by
  refine atRise_source (fun u hu => ?_) hs
  split
  · exact answerPort_source hu
  · split
    · exact answerPort_source hu
    · exact answerPort_source (hbody u hu)

/-- A command whose block leaves the source. -/
theorem carryOut_leaves {p : Port} {args : List Byte} {good : Bool} {body : State → Reply} {s : State}
    (hbody : ∀ u, LeavesSource u (body u).state) (hs : SourceInv s) : SourceInv (carryOut p args good body s) :=
  carryOut_source (fun u hu => (hbody u).keeps hu) hs

/-- A command that only reads. -/
theorem carryOut_reads {p : Port} {args : List Byte} {good : Bool} {result : State → Result} {s : State} (hs : SourceInv s) :
    SourceInv (carryOut p args good (fun u => { state := u, status := .done, result := result u }) s) :=
  carryOut_leaves LeavesSource.refl hs

theorem unlessLocked_leaves {p : Port} {g : Group} {body : State → Reply} {s : State}
    (hbody : LeavesSource s (body s).state) : LeavesSource s (unlessLocked p g body s).state := by
  unfold unlessLocked
  split
  · exact .refl s
  · exact hbody

/-! ### The commands of the Time Base and of the line -/

theorem setClock_leaves (p : Port) (args : List Byte) (s : State) : LeavesSource s (setClock p args s).state := by
  unfold setClock
  dsimp only
  split
  · exact .refl s
  · exact unlessLocked_leaves ⟨rfl, rfl, id⟩

theorem setDate_leaves (p : Port) (args : List Byte) (s : State) : LeavesSource s (setDate p args s).state := by
  unfold setDate
  dsimp only
  split
  · exact .refl s
  · exact leavesSource_of_touches (offerToSlot_touches _ _ _ s)

theorem setMarkWindow_leaves (p : Port) (args : List Byte) (s : State) :
    LeavesSource s (setMarkWindow p args s).state := unlessLocked_leaves ⟨rfl, rfl, id⟩

theorem giveRole_leaves (role : Role) (s : State) : LeavesSource s (giveRole role s) := ⟨rfl, rfl, id⟩

theorem setLineRole_leaves (p : Port) (args : List Byte) (s : State) : LeavesSource s (setLineRole p args s).state := by
  unfold setLineRole
  split
  · exact .refl s
  · refine unlessLocked_leaves ?_
    split
    · exact giveRole_leaves _ s
    · exact giveRole_leaves _ s

theorem setLine_leaves (p : Port) (args : List Byte) (s : State) : LeavesSource s (setLine p args s).state := by
  unfold setLine
  dsimp only
  split
  · exact .refl s
  · exact unlessLocked_leaves ⟨rfl, rfl, id⟩

theorem readLine_leaves (args : List Byte) (s : State) : LeavesSource s (readLine args s).state := by
  unfold readLine
  split
  · exact .refl s
  · dsimp only
    split
    · exact ⟨rfl, rfl, id⟩
    · exact .refl s

/-! ### The commands of the inputs, the log and the bursts -/

theorem allowInput_leaves (args : List Byte) (s : State) : LeavesSource s (allowInput args s).state := by
  unfold allowInput
  split
  · exact .refl s
  · split
    · exact .refl s
    · dsimp only
      split
      · exact leavesSource_of_touches ((makeAssert_touches _ _ _ _).after
          (Touches.write (bs := [.inputs])).within
          : Touches [.inputs, .log, .bursts, .shift, .units, .store, .ports, .notices] _ _)
      · exact ⟨rfl, rfl, id⟩

theorem applySetting_touches (old : InputSetting) (i : Fin 16) (s : State) : Touches [.inputs] s (applySetting old i s) := by
  unfold applySetting
  dsimp only
  split
  · exact .write
  · exact .write
  · split
    · exact .refl
    · exact .write
  · exact .refl

theorem setInput_leaves (p : Port) (args : List Byte) (s : State) : LeavesSource s (setInput p args s).state := by
  unfold setInput
  split
  · exact unlessLocked_leaves (leavesSource_after (applySetting_touches _ _ _) ⟨rfl, rfl, id⟩)
  · exact .refl s

theorem setChatterInterval_leaves (p : Port) (args : List Byte) (s : State) :
    LeavesSource s (setChatterInterval p args s).state := unlessLocked_leaves ⟨rfl, rfl, id⟩

theorem readInput_leaves (args : List Byte) (s : State) : LeavesSource s (readInput args s).state := by
  unfold readInput
  split
  · exact .refl s
  · exact .refl s

theorem readLog_leaves (p : Port) (n : Nat) (s : State) : LeavesSource s (readLog p n s).state := ⟨rfl, rfl, id⟩

theorem seekLog_leaves (p : Port) (x : BitVec 16) (s : State) : LeavesSource s (seekLog p x s).state := ⟨rfl, rfl, id⟩

theorem ackBurst_leaves (p : Port) (n : BitVec 16) (s : State) : LeavesSource s (ackBurst p n s).state := by
  unfold ackBurst
  split
  · exact .refl s
  · split
    · exact .refl s
    · split
      · exact .refl s
      · exact leavesSource_of_touches (replaceRecord_touches _ _ s)

theorem readBurst_leaves (n : BitVec 16) (s : State) : LeavesSource s (readBurst n s).state := by
  unfold readBurst
  split
  · exact .refl s
  · exact .refl s

theorem setFilter_leaves (p : Port) (args : List Byte) (s : State) : LeavesSource s (setFilter p args s).state := by
  unfold setFilter
  split
  · exact unlessLocked_leaves ⟨rfl, rfl, id⟩
  · exact .refl s

theorem setBurstGap_leaves (p : Port) (args : List Byte) (s : State) : LeavesSource s (setBurstGap p args s).state :=
  unlessLocked_leaves (leavesSource_after (judgeGap_touches _) ⟨rfl, rfl, id⟩)

/-! ### The commands of the units and of the store -/

theorem setModeTable_leaves (p : Port) (args : List Byte) (s : State) : LeavesSource s (setModeTable p args s).state := by
  have decoded : ∀ t, Touches [.units] t (allUnits.foldl (fun t u => if isFitted t u then decodeUnit u t else t) t) := by
    refine fun t => Touches.foldl (fun t u => ?_) _ _
    split
    · exact decodeUnit_touches _ _
    · exact .refl
  unfold setModeTable
  split
  · exact .refl s
  · split
    · exact unlessLocked_leaves (leavesSource_after (decoded _) ⟨rfl, rfl, id⟩)
    · exact .refl s

theorem setUnits_leaves (p : Port) (args : List Byte) (s : State) : LeavesSource s (setUnits p args s).state := by
  have settled : ∀ t, Touches [.units, .store, .ports, .notices] t (allUnits.foldl (fun t u => expireSettle u t) t) :=
    fun t => Touches.foldl (fun t u => expireSettle_touches u t) _ _
  have refitted : ∀ old t, Touches [.units, .notices] t (allUnits.foldl (refit old) t) :=
    fun old t => Touches.foldl (refit_touches old) _ _
  unfold setUnits
  dsimp only
  split
  · exact .refl s
  · exact unlessLocked_leaves (leavesSource_after (settled _) (leavesSource_after (refitted _ _) ⟨rfl, rfl, id⟩))

theorem setServiceLimit_leaves (p : Port) (args : List Byte) (s : State) :
    LeavesSource s (setServiceLimit p args s).state := by
  unfold setServiceLimit
  split
  · exact .refl s
  · exact unlessLocked_leaves (leavesSource_after (serviceTest_touches _ _) ⟨rfl, rfl, id⟩)

theorem presetTally_leaves (p : Port) (args : List Byte) (s : State) : LeavesSource s (presetTally p args s).state := by
  have requested : ∀ (r : RecordId) (u : Fin 8) (x : MachineUnit), LeavesSource s (request r (s.withUnit u x)) :=
    fun r u x => leavesSource_after (request_touches r _) ⟨rfl, rfl, id⟩
  unfold presetTally
  split
  · refine unlessLocked_leaves ?_
    dsimp only
    split
    · exact .refl s
    · dsimp only
      split
      · split
        · exact leavesSource_after (serviceTest_touches _ _) (requested _ _ _)
        · exact requested _ _ _
      · exact requested _ _ _
  · exact .refl s

theorem readUnit_leaves (args : List Byte) (s : State) : LeavesSource s (readUnit args s).state := by
  unfold readUnit
  split
  · exact .refl s
  · exact .refl s

theorem setCommitInterval_leaves (p : Port) (args : List Byte) (s : State) :
    LeavesSource s (setCommitInterval p args s).state := unlessLocked_leaves ⟨rfl, rfl, id⟩

/-! ### The commands of the shift -/

theorem openHandover_leaves (p : Port) (s : State) : LeavesSource s (openHandover p s).state := by
  unfold openHandover
  split
  · exact leavesSource_of_touches (openHandoverBy_touches _ _ _ s)
  · exact .refl s

theorem releaseShift_leaves (p : Port) (s : State) : LeavesSource s (releaseShift p s).state := by
  unfold releaseShift
  split
  · exact .refl s
  · exact .refl s
  · exact leavesSource_after (checkCompletion_touches _) ⟨rfl, rfl, id⟩

theorem acceptShift_leaves (p : Port) (crew : Nat) (s : State) : LeavesSource s (acceptShift p crew s).state := by
  unfold acceptShift
  split
  · exact .refl s
  · split
    · exact .refl s
    · exact .refl s
    · split
      · exact .refl s
      · exact leavesSource_after (checkCompletion_touches _) ⟨rfl, rfl, id⟩

theorem forceHandover_leaves (p : Port) (crew : Nat) (s : State) : LeavesSource s (forceHandover p crew s).state := by
  unfold forceHandover
  split
  · exact .refl s
  · split
    · exact .refl s
    · exact .refl s
    · split
      · exact .refl s
      · exact leavesSource_of_touches (complete_touches _ _ _ s)

theorem cancelHandover_leaves (s : State) : LeavesSource s (cancelHandover s).state := by
  unfold cancelHandover
  split
  · exact .refl s
  · exact ⟨rfl, rfl, id⟩

theorem setSchedule_leaves (p : Port) (args : List Byte) (s : State) : LeavesSource s (setSchedule p args s).state := by
  unfold setSchedule
  split
  · exact .refl s
  · split
    · exact .refl s
    · split
      · exact .refl s
      · exact unlessLocked_leaves ⟨rfl, rfl, id⟩

theorem setShiftTimes_leaves (p : Port) (args : List Byte) (s : State) : LeavesSource s (setShiftTimes p args s).state :=
  unlessLocked_leaves (leavesSource_after (judgeWindow_touches _) ⟨rfl, rfl, id⟩)

theorem readShiftRecord_leaves (n : Nat) (s : State) : LeavesSource s (readShiftRecord n s).state := by
  unfold readShiftRecord
  split
  · exact .refl s
  · exact .refl s

/-! ### The commands of the ports and of the notices -/

theorem lockGroup_leaves (p : Port) (args : List Byte) (s : State) : LeavesSource s (lockGroup p args s).state := by
  unfold lockGroup
  split
  · exact .refl s
  · split
    · exact .refl s
    · exact ⟨rfl, rfl, id⟩

theorem unlockGroup_leaves (p : Port) (args : List Byte) (s : State) : LeavesSource s (unlockGroup p args s).state := by
  unfold unlockGroup
  split
  · exact .refl s
  · split
    · exact .refl s
    · exact ⟨rfl, rfl, id⟩

theorem clearNotices_leaves (p : Port) (args : List Byte) (s : State) : LeavesSource s (clearNotices p args s).state := by
  unfold clearNotices
  split
  · exact .refl s
  · exact ⟨rfl, rfl, id⟩

theorem setNotices_leaves (p : Port) (args : List Byte) (s : State) : LeavesSource s (setNotices p args s).state := by
  unfold setNotices
  dsimp only
  split
  · split
    · exact ⟨rfl, rfl, id⟩
    · exact unlessLocked_leaves ⟨rfl, rfl, id⟩
  · exact .refl s

theorem readNotices_leaves (args : List Byte) (s : State) : LeavesSource s (readNotices args s).state := by
  unfold readNotices
  split
  · exact .refl s
  · exact .refl s

end Sys2Proof.Machine.SourceLaws
end

section
/-! SUPPORT. The Mark Qualifier's own operations: what each makes of the marks' registers, and that each keeps SourceInv. -/

namespace Sys2Proof.Machine.SourceLaws

set_option Elab.async false

/-! ### The registers beside the selected source -/

/-- SourceInv without the selected source: what it asks of the marks' registers, of a part that works or not. -/
def MarksSafe (m : MarkQualifier) (works : Bool) : Prop :=
  (m.faulted = true → m.recogniser = .suspended ∧ m.faultCounter = 32)
    ∧ (m.faulted = false → m.recogniser ≠ .suspended ∧ m.faultCounter ≤ 31)
    ∧ (m.pattern.isSome ↔ m.recogniser.inPattern) ∧ m.streak.length ≤ 2 ∧ (works = false → m.edge = none)

theorem sourceInv_iff (s : State) : SourceInv s ↔ s.mq.selected = selectable s ∧ MarksSafe s.mq (working s) := Iff.rfl

/-- Registers written that R38 does not read. -/
theorem sourceInv_write {s : State} {m : MarkQualifier} (hs : SourceInv s) (safe : MarksSafe m (working s))
    (selected : m.selected = s.mq.selected := by rfl) (faulted : m.faulted = s.mq.faulted := by rfl)
    (fibre : m.fibrePresence = s.mq.fibrePresence := by rfl) (peer : m.peerPresence = s.mq.peerPresence := by rfl) :
    SourceInv { s with mq := m } := by
  refine (sourceInv_iff _).2 ⟨?_, safe⟩
  have same : selectable { s with mq := m } = selectable s := by simp only [selectable, faulted, fibre, peer]
  exact selected.trans (hs.1.trans same.symm)

/-- A recogniser that is not suspended is that of a fibre that is not FAULTED (R35). -/
theorem faulted_eq_false {s : State} (hs : SourceInv s) (h : s.mq.recogniser ≠ .suspended) : s.mq.faulted = false := by
  obtain ⟨_, faulted, _⟩ := hs
  exact Bool.eq_false_iff.2 fun hf => h (faulted hf).1

/-- A fibre with a pattern in progress is not FAULTED (R30, R35). -/
theorem faulted_of_pattern {s : State} (hs : SourceInv s) (h : s.mq.pattern.isSome) : s.mq.faulted = false := by
  obtain ⟨_, _, _, pattern, _⟩ := id hs
  have inPattern := pattern.1 h
  refine faulted_eq_false hs fun suspended => ?_
  simp [Recogniser.inPattern, suspended] at inPattern

/-! ### The selection (R38, R39) -/

/-- An evaluation moves the selected source, sets the first-after-change flag at a change, and clears the line reference when the
source left is LINE. -/
theorem evaluateSource_mq (s : State) :
    (evaluateSource s).mq = { s.mq with
      selected := selectable s
      firstAfterChange := if selectable s = s.mq.selected then s.mq.firstAfterChange else true
      lineRef := if selectable s ≠ s.mq.selected ∧ s.mq.selected = .line then none else s.mq.lineRef } := by
  unfold evaluateSource
  split
  next same => simp [same]
  next change =>
    have reported : (sourceChanged { s with mq := { s.mq with selected := selectable s } }).mq
        = { s.mq with selected := selectable s } := (sourceChanged_touches _).same .mq
    simp [reported, change]

theorem evaluateSource_source {s : State} (safe : MarksSafe s.mq (working s)) : SourceInv (evaluateSource s) := by
  have touches := evaluateSource_touches s
  have settings : (evaluateSource s).settings = s.settings := touches.same .settings
  have works : working (evaluateSource s) = working s := working_congr (touches.same .supply)
  have same : selectable (evaluateSource s) = selectable s := by simp only [selectable, evaluateSource_mq, settings]
  refine (sourceInv_iff _).2 ⟨?_, ?_⟩
  · rw [same, evaluateSource_mq]
  · rw [works, evaluateSource_mq]
    exact safe

theorem expireFibrePresence_source {s : State} (hs : SourceInv s) : SourceInv (expireFibrePresence s) := by
  unfold expireFibrePresence
  split
  · exact hs
  · exact evaluateSource_source hs.2

theorem expirePeerPresence_source {s : State} (hs : SourceInv s) : SourceInv (expirePeerPresence s) := by
  unfold expirePeerPresence
  split
  · exact hs
  · exact evaluateSource_source hs.2

/-! ### The mark fault counter and the discarded pattern (R31, R35) -/

/-- The registers of a fibre that is FAULTED: the recogniser suspended, its pattern and the streak given up (R35). -/
def faultedMarks (m : MarkQualifier) : MarkQualifier :=
  { m with faultCounter := 32, faulted := true, recogniser := .suspended, pattern := none, streak := [] }

/-- The addition up to 31. -/
theorem addFault_counts {s : State} (h : s.mq.faultCounter ≤ 30) :
    addFault s = { s with mq := { s.mq with faultCounter := s.mq.faultCounter + 1 } } := by
  rw [addFault, if_pos (by omega)]

/-- The addition past 31 makes the fibre FAULTED and evaluates the source. -/
theorem addFault_faults {s : State} (h : 31 ≤ s.mq.faultCounter) :
    addFault s = evaluateSource (post .sourceFault { s with mq := faultedMarks s.mq }) := by
  rw [addFault, if_neg (by omega)]
  rfl

theorem atFault_safe {m : MarkQualifier} {works : Bool} (h : MarksSafe m works) :
    MarksSafe (faultedMarks m) works := by
  obtain ⟨_, _, _, _, edge⟩ := h
  exact ⟨fun _ => ⟨rfl, rfl⟩, fun hf => absurd hf.symm Bool.false_ne_true,
    by simp [faultedMarks, Recogniser.inPattern], Nat.zero_le 2, edge⟩

theorem addFault_source {s : State} (hs : SourceInv s) (hf : s.mq.faulted = false) : SourceInv (addFault s) := by
  obtain ⟨_, safe⟩ := (sourceInv_iff s).1 hs
  by_cases h : s.mq.faultCounter ≤ 30
  · rw [addFault_counts h]
    obtain ⟨faulted, clear, pattern, streak, edge⟩ := safe
    refine sourceInv_write hs ⟨fun hf' => ?_, fun hf' => ⟨(clear hf').1, ?_⟩, pattern, streak, edge⟩
    · simp [hf] at hf'
    · show s.mq.faultCounter + 1 ≤ 31
      omega
  · rw [addFault_faults (by omega)]
    have posted := post_touches .sourceFault { s with mq := faultedMarks s.mq }
    have marks : (post .sourceFault { s with mq := faultedMarks s.mq }).mq = faultedMarks s.mq :=
      posted.same .mq
    refine evaluateSource_source ?_
    rw [marks, working_congr (posted.same .supply)]
    exact atFault_safe safe

theorem settleRecogniser_source {s : State} (hs : SourceInv s) : SourceInv (settleRecogniser s) := by
  unfold settleRecogniser
  split
  next h =>
    obtain ⟨waitLow, _⟩ := h
    obtain ⟨_, faulted, clear, pattern, streak, edge⟩ := id hs
    refine sourceInv_write hs ⟨fun hf => ?_, fun hf => ⟨by simp, (clear hf).2⟩, ?_, streak, edge⟩
    · simp [waitLow] at faulted
      simp [faulted] at hf
    · simpa [Recogniser.inPattern, waitLow] using pattern
  next => exact hs

/-- A fibre that is not FAULTED, its recogniser brought back to WAIT_LOW with no pattern. -/
theorem sourceInv_waitLow {s : State} {m : MarkQualifier} (hs : SourceInv s) (hf : s.mq.faulted = false)
    (recogniser : m.recogniser = .waitLow := by rfl) (pattern : m.pattern = none := by rfl)
    (counter : m.faultCounter = s.mq.faultCounter := by rfl) (streak : m.streak = s.mq.streak := by rfl)
    (edge : m.edge = s.mq.edge := by rfl)
    (selected : m.selected = s.mq.selected := by rfl) (faulted : m.faulted = s.mq.faulted := by rfl)
    (fibre : m.fibrePresence = s.mq.fibrePresence := by rfl) (peer : m.peerPresence = s.mq.peerPresence := by rfl) :
    SourceInv { s with mq := m } := by
  obtain ⟨_, _, clear, _, short, waits⟩ := id hs
  refine sourceInv_write hs ⟨fun h => ?_, fun _ => ⟨by simp [recogniser], ?_⟩, ?_, ?_, ?_⟩ selected faulted fibre peer
  · simp [faulted, hf] at h
  · rw [counter]
    exact (clear hf).2
  · simp [pattern, recogniser, Recogniser.inPattern]
  · rw [streak]
    exact short
  · rw [edge]
    exact waits

theorem discardPattern_source {s : State} (hs : SourceInv s) (hf : s.mq.faulted = false) :
    SourceInv (discardPattern s) :=
  settleRecogniser_source (addFault_source (sourceInv_waitLow hs hf) hf)

theorem expirePattern_source {s : State} (hs : SourceInv s) : SourceInv (expirePattern s) := by
  unfold expirePattern
  split
  next due =>
    have inProgress : s.mq.pattern.isSome := by
      unfold timeoutDue at due
      split at due
      · cases due
      · simp [*]
    exact discardPattern_source hs (faulted_of_pattern hs inProgress)
  next => exact hs

/-! ### A mark in the Time Base (R10, R34) -/

/-- The registers after a step at another mark, taken at a reading: the edge and the pattern in progress are overtaken. -/
def notedMarks (m : MarkQualifier) (at_ : Reading) : MarkQualifier :=
  { m with
    edge := m.edge.map fun x => { x with stepped := true }
    lastStep := some at_
    pattern := m.pattern.map fun x => { x with stepped := true } }

theorem noted_safe {m : MarkQualifier} {works : Bool} {r : Reading} (h : MarksSafe m works) :
    MarksSafe (notedMarks m r) works := by
  obtain ⟨faulted, clear, pattern, streak, edge⟩ := h
  refine ⟨faulted, clear, ?_, streak, fun w => ?_⟩
  · simpa [notedMarks] using pattern
  · simp [notedMarks, edge w]

/-- An operation of the other blocks leaves the marks' registers. -/
theorem mq_of_touches {bs : List Block} {s t : State} (h : Touches bs s t) (hmq : .mq ∉ bs := by decide) : t.mq = s.mq :=
  h.same .mq hmq

theorem stepAtMark_mq (m : HandedMark) (p : Int) (s : State) :
    (stepAtMark m p s).mq = notedMarks s.mq (now s) := by
  have moved : ∀ t : State,
      (if disciplineState t.clk = .acquiring then t else moveTo .tracking t).mq = t.mq := by
    intro t
    split
    · rfl
    · exact mq_of_touches (moveTo_touches _ t)
  have reported : ∀ (size : StepSize) (source : StepSource) (x y : StationTime) (t : State),
      (reportStep x y (recordStep (some size) false source t)).mq = t.mq :=
    fun size source x y t =>
      (mq_of_touches (reportStep_touches x y _)).trans (mq_of_touches (recordStep_touches (some size) false source t))
  unfold stepAtMark
  dsimp only
  split
  · rw [mq_of_touches (takeBoundary_touches _), reported, moved]
    rfl
  · rw [reported, moved]
    rfl

theorem markWithoutStep_mq (m : HandedMark) (a b : Bool) (d : Int) (c : Option Candidate) (s : State) :
    (markWithoutStep m a b d c s).mq = s.mq := (markWithoutStep_touches m a b d c s).same .mq

/-- The history that a mark meets: an acquisition mark clears it (R5, R15). -/
def markStart (m : HandedMark) (s : State) : State :=
  if acquires m s.clk then { s with clk := s.clk.clearHistory } else s

theorem markStart_mq (m : HandedMark) (s : State) : (markStart m s).mq = s.mq := by
  unfold markStart
  split <;> rfl

theorem now_markStart (m : HandedMark) (s : State) : now (markStart m s) = now s := by
  unfold markStart
  split <;> rfl

/-- A mark taken whole, by the history it meets: the step it confirms, or none (section 1.4). -/
theorem processMark_eq (m : HandedMark) (s : State) :
    processMark m s =
      if confirms (markStart m s).settings.time (phaseError m.fraction) then
        if (confirm (markStart m s).clk.candidate (phaseError m.fraction)).2 then
          stepAtMark m (phaseError m.fraction) { markStart m s with
            clk := { (markStart m s).clk with trim := trimAfter m (markStart m s).settings.time.kf (markStart m s).clk } }
        else
          markWithoutStep m (acquires m s.clk) false (trimAfter m (markStart m s).settings.time.kf (markStart m s).clk)
            (confirm (markStart m s).clk.candidate (phaseError m.fraction)).1 (markStart m s)
      else
        markWithoutStep m (acquires m s.clk) true (trimAfter m (markStart m s).settings.time.kf (markStart m s).clk) none
          (markStart m s) := rfl

/-- A mark taken in the Time Base leaves the marks' registers, or notes its step in them. -/
theorem processMark_mq (m : HandedMark) (s : State) :
    (processMark m s).mq = s.mq ∨ (processMark m s).mq = notedMarks s.mq (now s) := by
  rw [processMark_eq]
  split
  · split
    · right
      rw [stepAtMark_mq]
      show notedMarks (markStart m s).mq (now (markStart m s)) = _
      rw [markStart_mq, now_markStart]
    · left
      rw [markWithoutStep_mq, markStart_mq]
  · left
    rw [markWithoutStep_mq, markStart_mq]

theorem processMark_source {m : HandedMark} {s : State} (hs : SourceInv s) : SourceInv (processMark m s) := by
  have touches := processMark_touches m s
  have settings : (processMark m s).settings = s.settings := touches.same .settings
  have works : working (processMark m s) = working s := working_congr (touches.same .supply)
  obtain ⟨selected, safe⟩ := (sourceInv_iff s).1 hs
  refine (sourceInv_iff _).2 ⟨?_, ?_⟩
  · rcases processMark_mq m s with marks | marks
    · simpa only [selectable, marks, settings] using selected
    · simpa only [selectable, marks, settings, notedMarks] using selected
  · rcases processMark_mq m s with marks | marks
    · rw [works, marks]
      exact safe
    · rw [works, marks]
      exact noted_safe safe

theorem handMark_source {f : Nat} {x : Source} {n : Option Nat} {s : State} (hs : SourceInv s) :
    SourceInv (handMark f x n s) := processMark_source (sourceInv_write hs hs.2)

/-! ### A fibre mark judged (R32, R33) -/

theorem acceptFibre_source {x : Pattern} {n : Option Nat} {s : State} (hs : SourceInv s) (hf : s.mq.faulted = false) :
    SourceInv (acceptFibre x n s) := by
  obtain ⟨_, faulted, clear, pattern, _, edge⟩ := hs
  refine handMark_source (evaluateSource_source ⟨fun h => ?_, fun h => ⟨(clear h).1, ?_⟩, pattern, Nat.zero_le 2, edge⟩)
  · simp [hf] at h
  · show s.mq.faultCounter - 1 ≤ 31
    have := (clear h).2
    omega

/-- A streak holds at most two strays (R33). -/
theorem streakAfter_length (streak : List Reading) (instant : Reading) : (streakAfter streak instant).1.length ≤ 2 := by
  unfold streakAfter
  split
  · simp
  · split <;> simp
  · split <;> simp

theorem judgeFibre_source {x : Pattern} {s : State} (hs : SourceInv s) (hf : s.mq.faulted = false) :
    SourceInv (judgeFibre x s) := by
  unfold judgeFibre
  split
  · exact hs
  · split
    · exact acceptFibre_source hs hf
    · exact acceptFibre_source hs hf
    · unfold fibreStray
      split
      · exact acceptFibre_source hs hf
      · obtain ⟨_, faulted, clear, pattern, _, edge⟩ := id hs
        exact addFault_source (sourceInv_write hs ⟨faulted, clear, pattern, streakAfter_length _ _, edge⟩) hf

theorem completePattern_source {s : State} (hs : SourceInv s) : SourceInv (completePattern s) := by
  unfold completePattern
  split
  · exact hs
  next x inProgress =>
    have hf : s.mq.faulted = false := faulted_of_pattern hs (by simp [inProgress])
    split
    · exact hs
    · exact judgeFibre_source (sourceInv_waitLow hs hf) hf

/-! ### Phase edges (R30) -/

/-- A pattern goes on: the recogniser passes from one of its states to another. -/
theorem sourceInv_patternGoesOn {s : State} {r : Recogniser} (t : Reading) (x : Option Pattern) (hs : SourceInv s)
    (here : s.mq.recogniser ≠ .suspended) (there : r ≠ .suspended) (pattern : x.isSome ↔ r.inPattern) :
    SourceInv { s with mq := { s.mq with recogniser := r, phaseStart := t, pattern := x } } := by
  have hf := faulted_eq_false hs here
  obtain ⟨_, _, clear, _, streak, edge⟩ := id hs
  refine sourceInv_write hs ⟨fun h => ?_, fun h => ⟨there, (clear h).2⟩, pattern, streak, edge⟩
  simp [hf] at h

theorem phaseEdge_source {e : FibreEdge} {l : Level} {s : State} (hs : SourceInv s) : SourceInv (phaseEdge e l s) := by
  obtain ⟨_, _, _, pattern, _⟩ := id hs
  unfold phaseEdge
  dsimp only
  split
  case h_1 h =>
    exact sourceInv_patternGoesOn s.mq.phaseStart s.mq.pattern hs (by simp [h]) (by simp)
      (by simpa [h, Recogniser.inPattern] using pattern)
  case h_2 h => exact sourceInv_patternGoesOn _ _ hs (by simp [h]) (by simp) (by simp [Recogniser.inPattern])
  case h_3 h =>
    split
    · exact sourceInv_patternGoesOn _ _ hs (by simp [h]) (by simp) (by simpa [h, Recogniser.inPattern] using pattern)
    · exact discardPattern_source hs (faulted_eq_false hs (by simp [h]))
  case h_4 h =>
    split
    · exact sourceInv_patternGoesOn _ _ hs (by simp [h]) (by simp) (by simpa [h, Recogniser.inPattern] using pattern)
    · exact discardPattern_source hs (faulted_eq_false hs (by simp [h]))
  case h_5 h => exact discardPattern_source hs (faulted_eq_false hs (by simp [h]))
  case h_6 => exact hs

theorem catchUp_source {s : State} (hs : SourceInv s) : SourceInv (catchUp s) := by
  have settled := settleRecogniser_source hs
  unfold catchUp
  dsimp only
  split
  · exact completePattern_source settled
  · exact expirePattern_source settled

/-- A change of level is given up, or has come to a working part. -/
theorem sourceInv_edge {s : State} {e : Option FibreEdge} (hs : SourceInv s) (h : working s = false → e = none) :
    SourceInv { s with mq := { s.mq with edge := e } } := by
  obtain ⟨_, faulted, clear, pattern, streak, _⟩ := id hs
  exact sourceInv_write hs ⟨faulted, clear, pattern, streak, h⟩

theorem standFibre_source {s : State} (hs : SourceInv s) : SourceInv (standFibre s) := by
  have caught := catchUp_source hs
  unfold standFibre
  split
  · exact hs
  · dsimp only
    split
    · exact caught
    · exact phaseEdge_source (sourceInv_edge caught fun _ => rfl)

theorem moveFibre_source {l : Level} {s : State} (hs : SourceInv s) : SourceInv (moveFibre l s) := by
  unfold moveFibre
  split
  · exact hs
  · split
    · exact sourceInv_of_touches (bs := [.pins]) hs .write
    next works =>
      have caught : SourceInv (catchUp (standFibre s)) := catchUp_source (standFibre_source hs)
      have goesOn : working (catchUp (standFibre s)) = true := by
        rw [working_congr (((catchUp_touches (standFibre s)).after (standFibre_touches s)).same .supply)]
        simpa using works
      have moved : SourceInv { catchUp (standFibre s) with pins := { (catchUp (standFibre s)).pins with fibre := l } } :=
        sourceInv_of_touches (bs := [.pins]) caught .write
      refine sourceInv_edge moved fun stopped => ?_
      exact absurd (stopped.symm.trans goesOn) Bool.false_ne_true

theorem fibreEdge_source {c : FibreChange} {s : State} (hs : SourceInv s) : SourceInv (fibreEdge c s) := by
  cases c with
  | moves level => exact moveFibre_source hs
  | stands => exact standFibre_source hs

/-! ### Line marks (R37) -/

theorem judgeLine_source {c : StartCapture} {s : State} (hs : SourceInv s) : SourceInv (judgeLine c s) := by
  have accepted : ∀ n, SourceInv (acceptLine c n s) := fun n => handMark_source (sourceInv_write hs hs.2)
  unfold judgeLine
  split
  · exact hs
  · split
    · exact accepted _
    · exact accepted _
    · exact sourceInv_write hs hs.2

theorem peerMark_source {i : BitVec 3} {g : Grade} {c : StartCapture} {s : State} (hs : SourceInv s) :
    SourceInv (peerMark i g c s) := by
  unfold peerMark
  split
  · exact hs
  · dsimp only
    split
    · exact sourceInv_write hs hs.2
    · split
      · exact judgeLine_source (evaluateSource_source hs.2)
      · exact evaluateSource_source hs.2

theorem takeTelegram_source {t : Telegram} {c : StartCapture} {s : State} (hs : SourceInv s) :
    SourceInv (takeTelegram t c s) := by
  have recorded : SourceInv (recordTelegram t c s) := sourceInv_of_touches (bs := [.tl]) hs .write
  have sender : SourceInv (judgeSender t (recordTelegram t c s)) := by
    unfold judgeSender
    split
    · exact sourceInv_of_touches recorded (post_touches _ _)
    · exact sourceInv_of_touches (bs := [.tl]) recorded .write
  have dated := sourceInv_of_touches (sourceInv_of_touches (peerMark_source (c := c) (i := t.id) (g := t.grade) sender)
    (crossCheck_touches t c _)) (offerLineDate_touches t c _)
  unfold takeTelegram yieldToPeer
  split
  · exact sourceInv_of_touches dated (yieldStandby_touches _)
  · exact dated

theorem receiveTelegram_source {bits : List Bool} {s : State} (hs : SourceInv s) : SourceInv (receiveTelegram bits s) := by
  have closed : SourceInv (closeReception s) := sourceInv_of_touches (bs := [.tl]) hs .write
  unfold receiveTelegram
  split
  · exact hs
  · split
    · exact hs
    · split
      · exact sourceInv_of_touches (bs := [.tl]) closed .write
      · exact takeTelegram_source closed

/-! ### The commands of the Mark Qualifier (R36, R42) -/

theorem rearmSource_source {s : State} (hs : SourceInv s) : SourceInv (rearmSource s).state := by
  obtain ⟨_, faulted, clear, pattern, streak, edge⟩ := hs
  unfold rearmSource
  dsimp only
  refine evaluateSource_source ⟨fun h => absurd h Bool.false_ne_true, fun _ => ⟨?_, Nat.zero_le 31⟩, ?_, streak, edge⟩
  · show (if _ then _ else _) ≠ _
    split
    · simp
    · assumption
  · show _ ↔ Recogniser.inPattern (if _ then _ else _)
    split
    next suspended => simpa [suspended, Recogniser.inPattern] using pattern
    next => exact pattern

theorem setLineMarks_source {p : Port} {args : List Byte} {s : State} (hs : SourceInv s) :
    SourceInv (setLineMarks p args s).state := by
  unfold setLineMarks
  dsimp only
  split
  · exact hs
  next enabled _ =>
    unfold unlessLocked
    split
    · exact hs
    · dsimp only
      split
      · exact evaluateSource_source hs.2
      next unchanged =>
        have same : enabled = s.settings.line.lineMarks := by simpa using unchanged
        refine (sourceInv_iff _).2 ⟨?_, hs.2⟩
        refine hs.1.trans ?_
        cases on : s.settings.line.lineMarks
        · simp [selectable, same, on]
        · simp [selectable, same, on]

end Sys2Proof.Machine.SourceLaws
end

section
/-! PROOF. Every step keeps the source safe (O5): the rows that reach the Mark Qualifier by its own operations, those that touch
other blocks alone, and the starts and stops of the part. -/

namespace Sys2Proof.Machine.SourceLaws

set_option Elab.async false

/-! ### Rows of the other blocks -/

theorem endPulse_touches (s : State) : Touches [.clk] s (endPulse s) := by
  unfold endPulse
  split
  · exact .refl
  · exact .write

theorem takeTenth_touches (s : State) : Touches [.clk, .units, .notices] s (takeTenth s) := by
  unfold takeTenth
  split
  · exact .refl
  · dsimp only
    split
    · exact .write
    · exact Touches.after (Touches.foldl growUnit_touches _ _) (Touches.write (bs := [.clk])).within

theorem changeCode_touches (u : Fin 8) (code : BitVec 4) (s : State) : Touches [.pins, .units] s (changeCode u code s) := by
  unfold changeCode
  split
  · exact .refl
  · dsimp only
    split
    · exact (decodeUnit_touches _ _).after .write
    · exact .write

theorem endBell_touches (s : State) : Touches [.shift] s (endBell s) := by
  unfold endBell
  split
  · exact .refl
  · exact .write

theorem expireHoldoff_touches (p : Port) (s : State) : Touches [.notices] s (expireHoldoff p s) := by
  unfold expireHoldoff
  split
  · exact .refl
  · exact .write

theorem selectFalls_touches (p : Port) (s : State) : Touches [.ports] s (selectFalls p s) := by
  unfold selectFalls
  split
  · exact .write
  · split
    · exact .write
    · exact .refl

theorem takeFetch_touches (p : Port) (s : State) : Touches [.ports] s (takeFetch p s) := by
  unfold takeFetch
  split
  · exact .refl
  · split
    · exact .refl
    · exact .write

theorem lineReset_touches (s : State) : Touches [.clk, .pins, .ports, .locks, .notices] s (lineReset s) := by
  unfold lineReset
  split
  · exact .refl
  · dsimp only
    split
    · exact .write
    · exact .write

/-! ### The frames that no block sees, and SAVE SETTINGS -/

theorem fetchFrame_source {p : Port} {n : Byte} {bits : List Bool} {s : State} (hs : SourceInv s) :
    SourceInv (fetchFrame p n bits s) := by
  unfold fetchFrame
  split
  · exact sourceInv_of_touches hs (takeFetch_touches p s)
  · exact atRise_source (fun u hu => answerPort_source hu) hs

theorem brokenFrame_source {p : Port} {bits : List Bool} {s : State} (hs : SourceInv s) :
    SourceInv (brokenFrame p bits s) := by
  unfold brokenFrame
  split
  · exact sourceInv_of_touches hs (endTransaction_touches p s)
  · exact atRise_source (fun u hu => answerPort_source hu) hs
  · exact hs
  · exact hs

theorem unknownCommand_source {p : Port} {code : Byte} {args : List Byte} {s : State} (hs : SourceInv s) :
    SourceInv (unknownCommand p code args s) := by
  unfold unknownCommand
  split
  · exact hs
  · exact atRise_source (fun u hu => answerPort_source hu) hs

theorem beginSave_touches (p : Port) (s : State) : Touches [.store, .ports] s (beginSave p s) :=
  (request_touches _ _).after .write

theorem saveSettings_source {p : Port} {args : List Byte} {s : State} (hs : SourceInv s) :
    SourceInv (saveSettings p args s) := by
  refine atRise_source (fun u hu => ?_) hs
  split
  · exact answerPort_source hu
  · split
    · exact answerPort_source hu
    · split
      · exact answerPort_source hu
      · exact sourceInv_of_touches hu (beginSave_touches p u)

/-! ### The supply states (R144 to R149) -/

/-- A move of the supply from NORMAL to WARNING or back. -/
theorem leavesSource_supply {s : State} {x : SupplyMonitor} (hstop : x.stopped = s.supply.stopped)
    (hnow : x.state ≠ .retain) : LeavesSource s { s with supply := x } := by
  refine ⟨rfl, rfl, fun h => ?_⟩
  simp [working, hstop, hnow] at h
  simp [working, h]

theorem setRestore_leaves (r : Option Reading) (s : State) : LeavesSource s (setRestore r s) := ⟨rfl, rfl, id⟩

theorem moveSupply_leaves (b : SupplyBand) (s : State) : LeavesSource s (moveSupply b s) := ⟨rfl, rfl, id⟩

theorem restoreRises_source {s : State} (hs : SourceInv s) : SourceInv (restoreRises s) := by
  have moved : SourceInv (moveSupply .atRestore s) := (moveSupply_leaves _ s).keeps hs
  unfold restoreRises
  split
  · exact hs
  · dsimp only
    split
    · exact (setRestore_leaves _ _).keeps moved
    · exact moved

theorem restoreFalls_source {s : State} (hs : SourceInv s) : SourceInv (restoreFalls s) := by
  unfold restoreFalls
  split
  · exact hs
  · exact (setRestore_leaves _ _).keeps ((moveSupply_leaves _ s).keeps hs)

theorem enterWarning_source {s : State} (hs : SourceInv s) : SourceInv (enterWarning s) :=
  sourceInv_of_touches (bs := [.store])
    ((leavesSource_supply (x := { s.supply with
        state := .warning, warnings := satSucc top16 s.supply.warnings, restore := none }) rfl (by simp)).keeps hs)
    .write

theorem warningFall_source {s : State} (hs : SourceInv s) : SourceInv (warningFall s) := by
  have moved : SourceInv (moveSupply .belowWarning s) := (moveSupply_leaves _ s).keeps hs
  unfold warningFall
  split
  · exact hs
  · dsimp only
    split
    · exact sourceInv_of_touches (enterWarning_source moved) (startProgram_touches _)
    · exact (setRestore_leaves _ _).keeps moved

theorem returnToNormal_source {s : State} (hs : SourceInv s) : SourceInv (returnToNormal s) := by
  unfold returnToNormal
  split
  · exact hs
  · exact sourceInv_of_touches (bs := [.store])
      ((leavesSource_supply (x := { s.supply with state := .normal, restore := none }) rfl (by simp)).keeps hs) .write

/-! ### RETAIN (R43, R147, R148) -/

/-- A part that stops has the Mark Qualifier of a cold start, and no change of light waits in it. -/
theorem stopPart_source (s : State) : SourceInv (stopPart s) := by
  refine (sourceInv_iff _).2 ⟨rfl, ?_⟩
  show MarksSafe MarkQualifier.reset _
  simp [MarksSafe, MarkQualifier.reset, Recogniser.inPattern]

/-- The other blocks' part of RETAIN entry leaves the registers as the Mark Qualifier's own leaves them. -/
theorem retainBlocks_mq (s : State) : (retainBlocks s).mq = (retainMarks s).mq := by
  have before : (retainClock (tearStore s)).mq = s.mq :=
    mq_of_touches ((retainClock_touches _).after (tearStore_touches s).within
      : Touches [.clk, .shift, .notices, .store, .supply] s _)
  have after : (retainBlocks s).mq = (retainMarks (retainClock (tearStore s))).mq :=
    mq_of_touches ((stopPorts_touches _).after ((retainNotices_touches _).after ((retainShift_touches _).after
      ((retainUnits_touches _).after ((retainBursts_touches _).after ((retainInputs_touches _).after
        (retainLine_touches _).within)))))
      : Touches [.ports, .notices, .shift, .units, .bursts, .inputs, .tl] (retainMarks (retainClock (tearStore s))) _)
  rw [after]
  simp only [retainMarks, before]

/-- The registers at RETAIN entry are safe in a part that works no more: the change of light is given up with the pattern. -/
theorem retainMarks_safe {s : State} (hs : SourceInv s) (works : Bool) : MarksSafe (retainMarks s).mq works := by
  obtain ⟨_, faulted, clear, _, _, _⟩ := hs
  by_cases suspended : s.mq.recogniser = .suspended
  · simpa [MarksSafe, retainMarks, suspended, Recogniser.inPattern] using And.intro faulted clear
  · have running : s.mq.faulted = false := Bool.eq_false_iff.2 fun hf => suspended (faulted hf).1
    simp [MarksSafe, retainMarks, suspended, running, (clear running).2, Recogniser.inPattern]

theorem enterRetain_source {s : State} (hs : SourceInv s) : SourceInv (enterRetain s) := by
  unfold enterRetain
  dsimp only
  split
  · exact stopPart_source _
  · have settings : (retainBlocks (openGap s)).settings = s.settings := (retainBlocks_touches (openGap s)).same .settings
    have marks : (retainBlocks (openGap s)).mq = (retainMarks s).mq := retainBlocks_mq (openGap s)
    refine (sourceInv_iff _).2 ⟨?_, ?_⟩
    · simpa only [selectable, marks, settings, retainMarks] using hs.1
    · rw [marks]
      exact retainMarks_safe hs _

theorem lowFall_source {s : State} (hs : SourceInv s) : SourceInv (lowFall s) := by
  have moved : SourceInv (moveSupply .belowLow s) := (moveSupply_leaves _ s).keeps hs
  unfold lowFall
  split
  · exact hs
  · dsimp only
    split
    · exact moved
    · split
      · exact enterRetain_source (enterWarning_source moved)
      · exact enterRetain_source moved
      · exact (setRestore_leaves _ _).keeps moved

theorem loseCell_source {s : State} (hs : SourceInv s) : SourceInv (loseCell s) := by
  unfold loseCell
  split
  · exact hs
  · split
    · exact stopPart_source s
    · exact LeavesSource.keeps ⟨rfl, rfl, id⟩ hs

/-! ### The starts (R43, R44, R149, R150) -/

theorem closeGap_leaves (s : State) : LeavesSource s (closeGap s) := ⟨rfl, rfl, id⟩

theorem warmStart_source {s : State} (hs : SourceInv s) : SourceInv (warmStart s) := by
  unfold warmStart
  split
  · exact hs
  · dsimp only
    have noted := (leavesSource_supply (x := { s.supply with state := .normal, restore := none }) rfl (by simp)).keeps hs
    have logged : SourceInv (recordGap (startNotices .supplyReturn
        { s with supply := { s.supply with state := .normal, restore := none } })) :=
      sourceInv_of_touches (sourceInv_of_touches noted (startNotices_touches _ _)) (makeEntry_touches _ _ _)
    generalize recordGap _ = t at logged
    have clocked : SourceInv (warmClock t) := sourceInv_of_touches (bs := [.clk]) logged .write
    have blocks : Touches [.tl, .inputs, .units, .shift, .notices, .store, .ports, .locks] (warmMarks (warmClock t))
        (warmBlocks t) :=
      (freeLocks_touches _).after ((stopPorts_touches _).after ((repairStore_touches _).after ((warmShift_touches _).after
        ((warmUnits_touches _).after ((warmInputs_touches _).after (warmLine_touches _).within)))))
    have warm : SourceInv (warmBlocks t) :=
      sourceInv_of_touches (evaluateSource_source clocked.2 : SourceInv (warmMarks (warmClock t))) blocks
    exact (closeGap_leaves _).keeps warm

/-- A cold start begins with the Mark Qualifier of R44, whatever the settings loaded. -/
theorem coldBlocks_source (s : State) : SourceInv (coldBlocks s) := by
  have marks : (coldBlocks s).mq = .reset := rfl
  refine (sourceInv_iff _).2 ⟨?_, ?_⟩
  · simp [selectable, marks, MarkQualifier.reset]
  · rw [marks]
    simp [MarksSafe, MarkQualifier.reset, Recogniser.inPattern]

theorem powerUp_source {s : State} (hs : SourceInv s) : SourceInv (powerUp s) := by
  unfold powerUp
  split
  · exact coldBlocks_source _
  · exact hs

/-! ### One oscillator period -/

theorem settleLines_source {was : Level} {s : State} (hs : SourceInv s) : SourceInv (settleLines was s) := by
  have grown : ∀ t, Touches [.tl] t (growFree t) := by
    intro t
    unfold growFree
    split
    · exact .refl
    · exact .write
  have started : ∀ t, Touches [.tl] t (settleStart t) := by
    intro t
    unfold settleStart
    split
    · exact .write
    · exact .refl
  have bits : ∀ t, Touches [.tl] t (readBit t) := by
    intro t
    unfold readBit
    split
    · exact .write
    · exact .refl
  unfold settleLines
  split
  · exact sourceInv_of_touches (settleRecogniser_source hs) ((settleReceiver_touches _).after ((bits _).after
      ((started _).after ((grown _).after (followLine_touches was _)))))
  · exact hs

theorem tick_source {s : State} (hs : SourceInv s) : SourceInv (tick s) := by
  unfold tick
  split
  · exact hs
  · have counted : SourceInv { s with clk := s.clk.period } := sourceInv_of_touches (bs := [.clk]) hs .write
    exact sourceInv_of_touches (bs := [.pending, .draws]) (settleLines_source counted) .write

/-! ### Every row -/

/-- The state that a row leaves is safe. -/
def RowKeeps (o : Outcome) : Prop := ∀ t, o = .next t → SourceInv t

theorem rowKeeps_next {t : State} (h : SourceInv t) : RowKeeps (.next t) := by
  intro u hu
  cases hu
  exact h

theorem exec_source {s : State} (c : Instr) (hs : SourceInv s) : RowKeeps (exec c s) := by
  cases c with
  | stationSecondBoundary => exact rowKeeps_next (sourceInv_of_touches hs (stationBoundary_touches s))
  | secOutPulseEnd => exact rowKeeps_next (sourceInv_of_touches hs (endPulse_touches s))
  | elapsedTenth => exact rowKeeps_next (sourceInv_of_touches hs (takeTenth_touches s))
  | fibrePhaseEdge change => exact rowKeeps_next (fibreEdge_source hs)
  | patternTimeout => exact rowKeeps_next (expirePattern_source hs)
  | patternComplete => exact rowKeeps_next (completePattern_source hs)
  | markSilenceExpiry => exact rowKeeps_next (sourceInv_of_touches hs (expireSilence_touches s))
  | holdoverGrowth => exact rowKeeps_next (sourceInv_of_touches hs (growHoldover_touches s))
  | fibrePresenceExpiry => exact rowKeeps_next (expireFibrePresence_source hs)
  | peerPresenceExpiry => exact rowKeeps_next (expirePeerPresence_source hs)
  | readClock p args => exact rowKeeps_next (carryOut_reads hs)
  | setClock p args => exact rowKeeps_next (carryOut_leaves (setClock_leaves p args) hs)
  | setDate p args => exact rowKeeps_next (carryOut_leaves (setDate_leaves p args) hs)
  | readSource p args => exact rowKeeps_next (carryOut_reads hs)
  | rearmSource p args => exact rowKeeps_next (carryOut_source (fun _ => rearmSource_source) hs)
  | setMarkWindow p args => exact rowKeeps_next (carryOut_leaves (setMarkWindow_leaves p args) hs)
  | setLineMarks p args => exact rowKeeps_next (carryOut_source (fun _ => setLineMarks_source) hs)
  | telegramJudged bits => exact rowKeeps_next (receiveTelegram_source hs)
  | brokenStartBit => exact rowKeeps_next (sourceInv_of_touches hs (breakStart_touches s))
  | telegramSent => exact rowKeeps_next (sourceInv_of_touches hs (completeSend_touches s))
  | arbitrationLoss => exact rowKeeps_next (sourceInv_of_touches hs (loseArbitration_touches s))
  | idClash => exact rowKeeps_next (sourceInv_of_touches hs (clashId_touches s))
  | sendFault => exact rowKeeps_next (sourceInv_of_touches hs (failSend_touches s))
  | setLineRole p args => exact rowKeeps_next (carryOut_leaves (setLineRole_leaves p args) hs)
  | setLine p args => exact rowKeeps_next (carryOut_leaves (setLine_leaves p args) hs)
  | readLine p args => exact rowKeeps_next (carryOut_leaves (readLine_leaves args) hs)
  | tripLeadingEdge k => exact rowKeeps_next (sourceInv_of_touches hs (leadingEdge_touches k s))
  | tripTrailingEdge k => exact rowKeeps_next (sourceInv_of_touches hs (trailingEdge_touches k s))
  | assertQualifies k => exact rowKeeps_next (sourceInv_of_touches hs (qualifyAssert_touches k s))
  | releaseQualifies k => exact rowKeeps_next (sourceInv_of_touches hs (qualifyRelease_touches k s))
  | allowInput p args => exact rowKeeps_next (carryOut_leaves (allowInput_leaves args) hs)
  | setInput p args => exact rowKeeps_next (carryOut_leaves (setInput_leaves p args) hs)
  | setChatterInterval p args => exact rowKeeps_next (carryOut_leaves (setChatterInterval_leaves p args) hs)
  | readInputs p args => exact rowKeeps_next (carryOut_reads hs)
  | readInput p args => exact rowKeeps_next (carryOut_leaves (readInput_leaves args) hs)
  | readLog p args => exact rowKeeps_next (carryOut_leaves (readLog_leaves p (argNumber args 0 1)) hs)
  | seekLog p args => exact rowKeeps_next (carryOut_leaves (seekLog_leaves p (BitVec.ofNat 16 (argNumber args 0 2))) hs)
  | readLogState p args => exact rowKeeps_next (carryOut_reads hs)
  | firstOutWindowClose => exact rowKeeps_next (sourceInv_of_touches hs (closeWindow_touches s))
  | burstGapExpiry => exact rowKeeps_next (sourceInv_of_touches hs (judgeGap_touches s))
  | ackBurst p args => exact rowKeeps_next (carryOut_leaves (ackBurst_leaves p (BitVec.ofNat 16 (argNumber args 0 2))) hs)
  | listBursts p args => exact rowKeeps_next (carryOut_reads hs)
  | readBurst p args => exact rowKeeps_next (carryOut_leaves (readBurst_leaves (BitVec.ofNat 16 (argNumber args 0 2))) hs)
  | setFilter p args => exact rowKeeps_next (carryOut_leaves (setFilter_leaves p args) hs)
  | setBurstGap p args => exact rowKeeps_next (carryOut_leaves (setBurstGap_leaves p args) hs)
  | readFilters p args => exact rowKeeps_next (carryOut_reads hs)
  | unitCodeChange u code => exact rowKeeps_next (sourceInv_of_touches hs (changeCode_touches u code s))
  | settleExpiry u => exact rowKeeps_next (sourceInv_of_touches hs (expireSettle_touches u s))
  | setModeTable p args => exact rowKeeps_next (carryOut_leaves (setModeTable_leaves p args) hs)
  | setUnits p args => exact rowKeeps_next (carryOut_leaves (setUnits_leaves p args) hs)
  | setServiceLimit p args => exact rowKeeps_next (carryOut_leaves (setServiceLimit_leaves p args) hs)
  | presetTally p args => exact rowKeeps_next (carryOut_leaves (presetTally_leaves p args) hs)
  | readUnit p args => exact rowKeeps_next (carryOut_leaves (readUnit_leaves args) hs)
  | readUnits p args => exact rowKeeps_next (carryOut_reads hs)
  | readModeTable p args => exact rowKeeps_next (carryOut_reads hs)
  | programEnd verified => exact rowKeeps_next (sourceInv_of_touches hs (endProgram_touches verified s))
  | intervalTimerExpiry => exact rowKeeps_next (sourceInv_of_touches hs (expireInterval_touches s))
  | hourlyTimerExpiry => exact rowKeeps_next (sourceInv_of_touches hs (expireHourly_touches s))
  | setCommitInterval p args => exact rowKeeps_next (carryOut_leaves (setCommitInterval_leaves p args) hs)
  | readStore p args => exact rowKeeps_next (carryOut_reads hs)
  | warningEntry => exact rowKeeps_next (warningFall_source hs)
  | supplyRestoreRise => exact rowKeeps_next (restoreRises_source hs)
  | supplyRestoreFall => exact rowKeeps_next (restoreFalls_source hs)
  | returnToNormal => exact rowKeeps_next (returnToNormal_source hs)
  | retainEntry => exact rowKeeps_next (lowFall_source hs)
  | warmStart => exact rowKeeps_next (warmStart_source hs)
  | backupCellLost => exact rowKeeps_next (loseCell_source hs)
  | coldStart => exact rowKeeps_next (powerUp_source hs)
  | handoverWindowExpiry => exact rowKeeps_next (sourceInv_of_touches hs (judgeWindow_touches s))
  | bellPulseEnd => exact rowKeeps_next (sourceInv_of_touches hs (endBell_touches s))
  | openHandover p args => exact rowKeeps_next (carryOut_leaves (openHandover_leaves p) hs)
  | releaseShift p args => exact rowKeeps_next (carryOut_leaves (releaseShift_leaves p) hs)
  | acceptShift p args => exact rowKeeps_next (carryOut_leaves (acceptShift_leaves p (argNumber args 0 1)) hs)
  | forceHandover p args => exact rowKeeps_next (carryOut_leaves (forceHandover_leaves p (argNumber args 0 1)) hs)
  | cancelHandover p args => exact rowKeeps_next (carryOut_leaves cancelHandover_leaves hs)
  | setSchedule p args => exact rowKeeps_next (carryOut_leaves (setSchedule_leaves p args) hs)
  | setShiftTimes p args => exact rowKeeps_next (carryOut_leaves (setShiftTimes_leaves p args) hs)
  | readShift p args => exact rowKeeps_next (carryOut_reads hs)
  | readShiftRecord p args => exact rowKeeps_next (carryOut_leaves (readShiftRecord_leaves (argNumber args 0 2)) hs)
  | fetch p lengthByte clocked => exact rowKeeps_next (fetchFrame_source hs)
  | brokenFrame p edges bytes => exact rowKeeps_next (brokenFrame_source hs)
  | unknownCommand p code args => exact rowKeeps_next (unknownCommand_source hs)
  | saveSettings p args => exact rowKeeps_next (saveSettings_source hs)
  | readPorts p args => exact rowKeeps_next (carryOut_reads hs)
  | lockGroup p args => exact rowKeeps_next (carryOut_leaves (lockGroup_leaves p args) hs)
  | unlockGroup p args => exact rowKeeps_next (carryOut_leaves (unlockGroup_leaves p args) hs)
  | lineReset => exact rowKeeps_next (sourceInv_of_touches hs (lineReset_touches s))
  | resetNRise => exact rowKeeps_next (sourceInv_of_touches (bs := [.pins]) hs .write)
  | clearNotices p args => exact rowKeeps_next (carryOut_leaves (clearNotices_leaves p args) hs)
  | holdoffExpiry p => exact rowKeeps_next (sourceInv_of_touches hs (expireHoldoff_touches p s))
  | setNotices p args => exact rowKeeps_next (carryOut_leaves (setNotices_leaves p args) hs)
  | readNotices p args => exact rowKeeps_next (carryOut_leaves (readNotices_leaves args) hs)
  | startEdge => exact rowKeeps_next (sourceInv_of_touches hs (fallLine_touches s))
  | timeLineRise => exact rowKeeps_next (sourceInv_of_touches hs (raiseLine_touches s))
  | selectFall p => exact rowKeeps_next (sourceInv_of_touches hs (selectFalls_touches p s))

/-- Settles O5: each row keeps the source safe, and so does a period in which no command waits. -/
theorem everyStepKeepsTheSourceSafe : Obligations.EveryStepKeepsTheSourceSafe := by
  unfold Obligations.EveryStepKeepsTheSourceSafe
  intro s t hs stepped
  unfold step at stepped
  split at stepped
  next =>
    cases stepped
    exact tick_source hs
  next c rest _ =>
    have popped : SourceInv { s with pending := rest } := sourceInv_of_touches (bs := [.pending]) hs .write
    exact exec_source c popped t stepped

end Sys2Proof.Machine.SourceLaws
end

section
/-! PROOF. The glitch filter, the phases of a pattern and its discarding (O34): one equation for each operation of the recogniser
where nothing else is due, then the clauses of the statement. -/

namespace Sys2Proof.Machine.SourceLaws

set_option Elab.async false

/-! ### What is due -/

/-- No change of light has stood for 50 µs (R30). -/
theorem edgeDue_eq_false {s : State} (h : ∀ e, s.mq.edge = some e → since s e.reading < 500) : edgeDue s = false := by
  unfold edgeDue
  split
  · rfl
  next e waits => simp [Config.glitch, Nat.not_le.2 (h e waits)]

theorem edgeDue_of_stood {s : State} {e : FibreEdge} (works : working s = true) (waits : s.mq.edge = some e)
    (stood : 500 ≤ since s e.reading) : edgeDue s = true := by
  simp [edgeDue, waits, works, Config.glitch, stood]

/-- A pattern is complete in its second high alone (R30). -/
theorem completeDue_eq_false_of_ne {s : State} (h : s.mq.recogniser ≠ .secondHigh) : completeDue s = false := by
  unfold completeDue
  split
  next second _ => exact absurd second h
  · rfl

/-- Nor is it complete before 200 µs of it (R30). -/
theorem completeDue_eq_false_of_early {s : State} (h : s.mq.recogniser = .secondHigh → since s s.mq.phaseStart < 2000) :
    completeDue s = false := by
  unfold completeDue
  split
  next second _ => simp [Config.patternLevel, Nat.not_le.2 (h second)]
  · rfl

/-- A change of light before the 200 µs may end the high, and stands in the way (R30). -/
theorem completeDue_eq_false_of_edge {s : State} {e : FibreEdge} (waits : s.mq.edge = some e)
    (short : elapsedBetween s.mq.phaseStart e.reading < 2000) : completeDue s = false := by
  unfold completeDue
  split
  · simp [edgeClear, waits, Config.patternLevel, Nat.not_le.2 short]
  · rfl

/-- Nor does a second high complete a pattern that it would end past its 2 ms (R30). -/
theorem completeDue_eq_false_of_late {s : State} {x : Pattern} (inProgress : s.mq.pattern = some x)
    (late : 18000 < elapsedBetween x.start s.mq.phaseStart) : completeDue s = false := by
  unfold completeDue
  split
  next y _ found =>
    cases inProgress.symm.trans found
    have : ¬ elapsedBetween x.start s.mq.phaseStart + 2000 ≤ 20000 := by omega
    simp [Config.patternLevel, Config.patternLimit, this]
  · rfl

/-- A pattern is not malformed before 2 ms from its start (R31). -/
theorem timeoutDue_eq_false {s : State} (h : ∀ x, s.mq.pattern = some x → since s x.start < 20000) :
    timeoutDue s = false := by
  unfold timeoutDue
  split
  · rfl
  next x inProgress => simp [Config.patternLimit, Nat.not_le.2 (h x inProgress)]

/-! ### The recogniser's WAIT_LOW (R30) -/

/-- The recogniser once a low line has taken it from WAIT_LOW to WAIT_RISE. -/
def settledRecogniser (s : State) : Recogniser :=
  if s.mq.recogniser = .waitLow ∧ fibreLevel s = .low then .waitRise else s.mq.recogniser

theorem settleRecogniser_eq (s : State) :
    settleRecogniser s = { s with mq := { s.mq with recogniser := settledRecogniser s } } := by
  unfold settleRecogniser settledRecogniser
  split <;> rfl

theorem completeDue_settleRecogniser (s : State) : completeDue (settleRecogniser s) = completeDue s := by
  unfold settleRecogniser
  split
  next h => rw [completeDue_eq_false_of_ne (by simp), completeDue_eq_false_of_ne (by simp [h.1])]
  · rfl

theorem timeoutDue_settleRecogniser (s : State) : timeoutDue (settleRecogniser s) = timeoutDue s := by
  have complete := completeDue_settleRecogniser s
  rw [settleRecogniser_eq] at complete ⊢
  unfold timeoutDue
  rw [complete]
  rfl

/-- With nothing due before, catching up leaves what settles by itself. -/
theorem catchUp_eq {s : State} (complete : completeDue s = false) (timeout : timeoutDue s = false) :
    catchUp s = { s with mq := { s.mq with recogniser := settledRecogniser s } } := by
  unfold catchUp
  simp only [completeDue_settleRecogniser, timeoutDue_settleRecogniser, complete, timeout]
  exact settleRecogniser_eq s

/-! ### Changes of light (R30) -/

theorem standFibre_eq_self {s : State} (h : ∀ e, s.mq.edge = some e → since s e.reading < 500) : standFibre s = s := by
  rw [standFibre, edgeDue_eq_false h]
  rfl

/-- A change that may still be a glitch is given up at the next, and else the next may be one. -/
theorem moveFibre_eq {s : State} {level : Level} (works : working s = true) (moves : s.pins.fibre ≠ level)
    (waits : ∀ e, s.mq.edge = some e → since s e.reading < 500) (complete : completeDue s = false)
    (timeout : timeoutDue s = false) :
    moveFibre level s = { s with
      pins := { s.pins with fibre := level }
      mq := { s.mq with
        recogniser := settledRecogniser s
        edge := if s.mq.edge.isSome then none
          else some { reading := now s, fraction := s.clk.time.fraction, stepped := false } } } := by
  rw [moveFibre, if_neg moves, if_neg (by simp [works]), standFibre_eq_self waits, catchUp_eq complete timeout]
  rfl

/-- A change that has stood is a phase edge, when nothing was due before it. -/
theorem standFibre_eq {s : State} {e : FibreEdge} (works : working s = true) (waits : s.mq.edge = some e)
    (stood : 500 ≤ since s e.reading) (complete : completeDue s = false) (timeout : timeoutDue s = false) :
    standFibre s = phaseEdge e s.pins.fibre
      { s with mq := { s.mq with recogniser := settledRecogniser s, edge := none } } := by
  rw [standFibre, edgeDue_of_stood works waits stood, catchUp_eq complete timeout]
  simp only [waits, Bool.true_eq_false, if_false]

/-! ### The discarded pattern (R31, R35) -/

/-- The registers with a malformed pattern discarded and counted, before the fault counter. -/
def discardedMarks (m : MarkQualifier) : MarkQualifier :=
  { m with
    recogniser := .waitLow, pattern := none,
    totals := { m.totals with malformed := satSucc top32 m.totals.malformed } }

/-- Up to 31 faults the recogniser waits for the high to end, or for the next rise when it has ended. -/
theorem discardPattern_counts {s : State} (none_waits : s.mq.edge = none) (h : s.mq.faultCounter ≤ 30) :
    discardPattern s = { s with mq := { discardedMarks s.mq with
      recogniser := if s.pins.fibre = .low then .waitRise else .waitLow, faultCounter := s.mq.faultCounter + 1 } } := by
  have counted := addFault_counts (s := { s with mq := discardedMarks s.mq }) h
  unfold discardedMarks at counted
  rw [discardPattern, counted, settleRecogniser_eq]
  simp [settledRecogniser, fibreLevel, none_waits, discardedMarks]

/-- Past 31 the fibre is FAULTED, and the recogniser suspended. -/
theorem discardPattern_faults {s : State} (h : 31 ≤ s.mq.faultCounter) :
    discardPattern s = evaluateSource (post .sourceFault { s with mq := faultedMarks (discardedMarks s.mq) }) := by
  have faults := addFault_faults (s := { s with mq := discardedMarks s.mq }) h
  have suspended : (addFault { s with mq := discardedMarks s.mq }).mq.recogniser = .suspended := by
    rw [faults, evaluateSource_mq]
    show (post .sourceFault _).mq.recogniser = _
    rw [mq_of_touches (post_touches _ _)]
    rfl
  rw [← faults]
  show settleRecogniser (addFault { s with mq := discardedMarks s.mq }) = _
  rw [settleRecogniser, if_neg (by simp [suspended])]

/-- Of a FAULTED fibre R38 selects the line or nothing. -/
theorem selectable_faulted {s : State} (h : s.mq.faulted = true) :
    selectable s = if s.settings.line.lineMarks = true ∧ s.mq.peerPresence.isSome then .line else .noSource := by
  rw [selectable, if_neg (by simp [h])]

/-- The registers of a fibre just FAULTED: the line is selected in its place, when it can be (R35, R38). -/
theorem faulted_mq (s : State) (m : MarkQualifier) :
    let t := evaluateSource (post .sourceFault { s with mq := faultedMarks m })
    t.mq.faulted = true ∧ t.mq.faultCounter = 32 ∧ t.mq.recogniser = .suspended ∧ t.mq.streak = []
      ∧ t.mq.pattern = none ∧ t.mq.totals = m.totals
      ∧ t.mq.selected = (if s.settings.line.lineMarks = true ∧ m.peerPresence.isSome then .line else .noSource) := by
  have touches := post_touches .sourceFault { s with mq := faultedMarks m }
  generalize post .sourceFault { s with mq := faultedMarks m } = u at touches ⊢
  have marks : u.mq = faultedMarks m := mq_of_touches touches
  have settings : u.settings = s.settings := touches.same .settings
  have selected := selectable_faulted (s := u) (by rw [marks]; rfl)
  dsimp only
  rw [evaluateSource_mq, selected, marks, settings]
  exact ⟨rfl, rfl, rfl, rfl, rfl, rfl, rfl⟩

/-! ### The light moves -/

/-- Before a change the line stood at the other level. -/
theorem settledRecogniser_clear {s : State} {level : Level} (moves : s.pins.fibre ≠ level) (clear : s.mq.edge = none) :
    settledRecogniser s = if s.mq.recogniser = .waitLow ∧ level = .high then .waitRise else s.mq.recogniser := by
  have other : s.pins.fibre = .low ↔ level = .high := by
    cases level <;> cases h : s.pins.fibre <;> simp_all
  simp [settledRecogniser, fibreLevel, clear, other]

/-- A change that waits has not reached the recogniser, which goes by the level before it. -/
theorem settledRecogniser_waits {s : State} {e : FibreEdge} (waits : s.mq.edge = some e) :
    settledRecogniser s
      = if s.mq.recogniser = .waitLow ∧ s.pins.fibre = .high then .waitRise else s.mq.recogniser := by
  have other : flipLevel s.pins.fibre = .low ↔ s.pins.fibre = .high := by
    cases s.pins.fibre <;> simp [flipLevel]
  simp [settledRecogniser, fibreLevel, waits, other]

/-- A glitch ends at the level it began from. -/
theorem settledRecogniser_glitch {s : State} {e : FibreEdge} {level : Level} (moves : s.pins.fibre ≠ level)
    (waits : s.mq.edge = some e) :
    settledRecogniser s = if s.mq.recogniser = .waitLow ∧ level = .low then .waitRise else s.mq.recogniser := by
  have other : s.pins.fibre = .high ↔ level = .low := by
    cases level <;> cases h : s.pins.fibre <;> simp_all
  simp [settledRecogniser_waits waits, other]

theorem moveFibre_same {s : State} {level : Level} (same : s.pins.fibre = level) : moveFibre level s = s := by
  rw [moveFibre, if_pos same]

/-- In RETAIN the line moves and the recogniser does not (R43). -/
theorem moveFibre_idle {s : State} {level : Level} (idle : working s = false) :
    moveFibre level s = { s with pins := { s.pins with fibre := level } } := by
  by_cases same : s.pins.fibre = level
  · rw [moveFibre_same same, ← same]
  · rw [moveFibre, if_neg same, if_pos idle]

section
variable {s : State} {level : Level} (works : working s = true)
  (pattern : ∀ x, s.mq.pattern = some x → since s x.start < 20000)
  (early : s.mq.recogniser = .secondHigh → since s s.mq.phaseStart < 2000) (moves : s.pins.fibre ≠ level)
include works pattern early moves

/-- A change of level waits, dated at its own moment. -/
theorem moveFibre_waits (clear : s.mq.edge = none) :
    moveFibre level s = { s with
      pins := { s.pins with fibre := level }
      mq := { s.mq with
        recogniser := if s.mq.recogniser = .waitLow ∧ level = .high then .waitRise else s.mq.recogniser
        edge := some { reading := now s, fraction := s.clk.time.fraction, stepped := false } } } := by
  rw [moveFibre_eq works moves (by simp [clear]) (completeDue_eq_false_of_early early) (timeoutDue_eq_false pattern),
    settledRecogniser_clear moves clear]
  simp [clear]

/-- A return sooner than 50 µs makes the change before it a glitch, of which nothing is left. -/
theorem moveFibre_glitch {e : FibreEdge} (waits : s.mq.edge = some e) (young : since s e.reading < 500) :
    moveFibre level s = { s with
      pins := { s.pins with fibre := level }
      mq := { s.mq with
        recogniser := if s.mq.recogniser = .waitLow ∧ level = .low then .waitRise else s.mq.recogniser
        edge := none } } := by
  have unstood : ∀ x, s.mq.edge = some x → since s x.reading < 500 := by
    intro x found
    cases waits.symm.trans found
    exact young
  rw [moveFibre_eq works moves unstood (completeDue_eq_false_of_early early) (timeoutDue_eq_false pattern),
    settledRecogniser_glitch moves waits]
  simp [waits]

end

/-! ### Phase edges (R30, R31) -/

/-- A phase edge that ends its phase `r` before 200 µs: the pattern is discarded, and up to 31 faults the recogniser waits on. -/
theorem phaseEdge_breaks {e : FibreEdge} {s : State} {r next : Recogniser}
    (h : r = .firstHigh ∧ s.pins.fibre = .low ∧ next = .waitRise ∨ r = .low ∧ s.pins.fibre = .high ∧ next = .waitLow
      ∨ r = .secondHigh ∧ s.pins.fibre = .low ∧ next = .waitRise)
    (short : ¬ 2000 ≤ elapsedBetween s.mq.phaseStart e.reading) (counter : s.mq.faultCounter ≤ 30) :
    phaseEdge e s.pins.fibre { s with mq := { s.mq with recogniser := r, edge := none } } = { s with mq := { s.mq with
      recogniser := next, edge := none, pattern := none, faultCounter := s.mq.faultCounter + 1,
      totals := { s.mq.totals with malformed := satSucc 4294967295 s.mq.totals.malformed } } } := by
  have discarded := discardPattern_counts (s := { s with mq := { s.mq with recogniser := r, edge := none } }) rfl counter
  rcases h with ⟨rfl, level, rfl⟩ | ⟨rfl, level, rfl⟩ | ⟨rfl, level, rfl⟩ <;>
    simp [phaseEdge, level, Config.patternLevel, short, discarded, discardedMarks, top32]

section
variable {e : FibreEdge} {s : State} (works : working s = true) (waits : s.mq.edge = some e)
  (stood : 500 ≤ since s e.reading) (pattern : ∀ x, s.mq.pattern = some x → since s x.start < 20000)
include works waits stood pattern

/-- A change that stands is a phase edge to the recogniser as it has settled, with nothing due before it. -/
theorem stands_eq (r : Recogniser) (complete : completeDue s = false)
    (settled : (if s.mq.recogniser = .waitLow ∧ s.pins.fibre = .high then .waitRise else s.mq.recogniser) = r) :
    standFibre s = phaseEdge e s.pins.fibre { s with mq := { s.mq with recogniser := r, edge := none } } := by
  rw [standFibre_eq works waits stood complete (timeoutDue_eq_false pattern), settledRecogniser_waits waits, settled]

/-- A rise starts a pattern, with the reading and the fraction of the change. -/
theorem stands_starts (high : s.pins.fibre = .high) (idle : s.mq.recogniser = .waitLow ∨ s.mq.recogniser = .waitRise) :
    standFibre s = { s with mq := { s.mq with
      recogniser := .firstHigh, phaseStart := e.reading, edge := none,
      pattern := some { start := e.reading, fraction := e.fraction, stepped := e.stepped } } } := by
  have complete : completeDue s = false :=
    completeDue_eq_false_of_ne (by rcases idle with h | h <;> simp [h])
  rw [stands_eq works waits stood pattern .waitRise complete (by rcases idle with h | h <;> simp [h, high])]
  simp [phaseEdge, high]

/-- A fall in WAIT_LOW is the end of the high waited for. -/
theorem stands_settles (low : s.pins.fibre = .low) (waitLow : s.mq.recogniser = .waitLow) :
    standFibre s = { s with mq := { s.mq with recogniser := .waitRise, edge := none } } := by
  rw [stands_eq works waits stood pattern .waitLow (completeDue_eq_false_of_ne (by simp [waitLow])) (by simp [waitLow, low])]
  simp [phaseEdge, low]

/-- A fall after 200 µs of the first high, and a rise after 200 µs of the low, go on. -/
theorem stands_goesOn {next : Recogniser}
    (h : s.mq.recogniser = .firstHigh ∧ s.pins.fibre = .low ∧ next = .low
      ∨ s.mq.recogniser = .low ∧ s.pins.fibre = .high ∧ next = .secondHigh)
    (long : 2000 ≤ elapsedBetween s.mq.phaseStart e.reading) :
    standFibre s = { s with mq := { s.mq with recogniser := next, phaseStart := e.reading, edge := none } } := by
  rcases h with ⟨first, fall, rfl⟩ | ⟨low, rise, rfl⟩
  · rw [stands_eq works waits stood pattern .firstHigh (completeDue_eq_false_of_ne (by simp [first])) (by simp [first])]
    simp [phaseEdge, fall, Config.patternLevel, long]
  · rw [stands_eq works waits stood pattern .low (completeDue_eq_false_of_ne (by simp [low])) (by simp [low])]
    simp [phaseEdge, rise, Config.patternLevel, long]

/-- A phase that ends sooner is malformed: the pattern is discarded and counted, and up to 31 faults the recogniser waits on. -/
theorem stands_breaks {next : Recogniser}
    (h : s.mq.recogniser = .firstHigh ∧ s.pins.fibre = .low ∧ next = .waitRise
      ∨ s.mq.recogniser = .low ∧ s.pins.fibre = .high ∧ next = .waitLow
      ∨ s.mq.recogniser = .secondHigh ∧ s.pins.fibre = .low ∧ next = .waitRise)
    (short : ¬ 2000 ≤ elapsedBetween s.mq.phaseStart e.reading) (counter : s.mq.faultCounter ≤ 30) :
    standFibre s = { s with mq := { s.mq with
      recogniser := next, edge := none, pattern := none, faultCounter := s.mq.faultCounter + 1,
      totals := { s.mq.totals with malformed := satSucc 4294967295 s.mq.totals.malformed } } } := by
  have complete : completeDue s = false := completeDue_eq_false_of_edge waits (Nat.not_le.1 short)
  have settled : (if s.mq.recogniser = .waitLow ∧ s.pins.fibre = .high then .waitRise else s.mq.recogniser)
      = s.mq.recogniser := by
    rcases h with ⟨here, _⟩ | ⟨here, _⟩ | ⟨here, _⟩ <;> simp [here]
  rw [stands_eq works waits stood pattern _ complete settled]
  exact phaseEdge_breaks h short counter

/-- A suspended recogniser takes no phase edge. -/
theorem stands_suspended (suspended : s.mq.recogniser = .suspended) :
    standFibre s = { s with mq := { s.mq with edge := none } } := by
  rw [stands_eq works waits stood pattern .suspended (completeDue_eq_false_of_ne (by simp [suspended]))
    (by simp [suspended])]
  simp [phaseEdge, suspended]

end

/-! ### The 2 ms limit (R31) -/

theorem timeoutDue_of_late {x : Pattern} {s : State} (works : working s = true) (inProgress : s.mq.pattern = some x)
    (late : 20000 ≤ since s x.start) (clear : s.mq.edge = none)
    (incomplete : s.mq.recogniser = .firstHigh ∨ s.mq.recogniser = .low
      ∨ (s.mq.recogniser = .secondHigh ∧ 18000 < elapsedBetween x.start s.mq.phaseStart)) :
    timeoutDue s = true := by
  have complete : completeDue s = false := by
    rcases incomplete with first | low | ⟨_, past⟩
    · exact completeDue_eq_false_of_ne (by simp [first])
    · exact completeDue_eq_false_of_ne (by simp [low])
    · exact completeDue_eq_false_of_late inProgress past
  simp [timeoutDue, inProgress, works, edgeClear, clear, complete, Config.patternLimit, late]

/-- A pattern is discarded: counted, and a fault more, up to FAULTED past 31. -/
theorem patternDiscarded {s : State} (clear : s.mq.edge = none) :
    let t := discardPattern s
    t.mq.pattern = none ∧ t.mq.totals = { s.mq.totals with malformed := satSucc 4294967295 s.mq.totals.malformed }
      ∧ (s.mq.faultCounter ≤ 30 →
          t.mq.faultCounter = s.mq.faultCounter + 1 ∧ t.mq.faulted = s.mq.faulted ∧ t.mq.selected = s.mq.selected
            ∧ t.mq.recogniser = (if s.pins.fibre = .low then .waitRise else .waitLow) ∧ t.clk = s.clk)
      ∧ (31 ≤ s.mq.faultCounter →
          t.mq.faulted = true ∧ t.mq.faultCounter = 32 ∧ t.mq.recogniser = .suspended ∧ t.mq.streak = []
            ∧ t.mq.selected
              = (if s.settings.line.lineMarks = true ∧ s.mq.peerPresence.isSome then .line else .noSource)) := by
  by_cases counter : s.mq.faultCounter ≤ 30
  · dsimp only
    rw [discardPattern_counts clear counter]
    exact ⟨rfl, rfl, fun _ => ⟨rfl, rfl, rfl, rfl, rfl⟩, fun past => absurd past (by omega)⟩
  · have past : 31 ≤ s.mq.faultCounter := by omega
    obtain ⟨faulted, count, recogniser, streak, pattern, totals, selected⟩ := faulted_mq s (discardedMarks s.mq)
    dsimp only
    rw [discardPattern_faults past]
    exact ⟨pattern, totals, fun h => absurd h counter, fun _ => ⟨faulted, count, recogniser, streak, selected⟩⟩

/-- Settles O34, by the recogniser's equations: a move of the light, a change that stands, and the 2 ms limit. -/
theorem patternsAreFollowedAndDiscarded : Obligations.PatternsAreFollowedAndDiscarded := by
  unfold Obligations.PatternsAreFollowedAndDiscarded
  refine ⟨fun level s => ?_, fun e s works waits stood pattern => ?_, fun x s works inProgress late clear incomplete => ?_⟩
  · refine ⟨fun same => congrArg _ (moveFibre_same same), ?_, ?_, fun idle => congrArg _ (moveFibre_idle idle),
      fun young => congrArg _ (standFibre_eq_self young)⟩
    · rintro ⟨works, pattern, early⟩ moves clear
      exact congrArg _ (moveFibre_waits works pattern early moves clear)
    · rintro e ⟨works, pattern, early⟩ moves waits young
      exact congrArg _ (moveFibre_glitch works pattern early moves waits young)
  · have goesOn := fun next => stands_goesOn (next := next) works waits stood pattern
    have breaks := fun next => stands_breaks (next := next) works waits stood pattern
    refine ⟨fun high idle => congrArg _ (stands_starts works waits stood pattern high idle),
      fun low waitLow => congrArg _ (stands_settles works waits stood pattern low waitLow),
      fun high low => ⟨fun long => ?_, fun short counter => ?_⟩, fun low first => ⟨fun long => ?_, fun short counter => ?_⟩,
      fun low second short counter => ?_, fun suspended => congrArg _ (stands_suspended works waits stood pattern suspended)⟩
    · exact congrArg _ (goesOn _ (.inr ⟨low, high, rfl⟩) long)
    · exact congrArg _ (breaks _ (.inr (.inl ⟨low, high, rfl⟩)) short counter)
    · exact congrArg _ (goesOn _ (.inl ⟨first, low, rfl⟩) long)
    · exact congrArg _ (breaks _ (.inl ⟨first, low, rfl⟩) short counter)
    · exact congrArg _ (breaks _ (.inr (.inr ⟨second, low, rfl⟩)) short counter)
  · obtain ⟨pattern, totals, counted, faulted⟩ := patternDiscarded clear
    have touches := discardPattern_touches s
    refine ⟨discardPattern s, ?_, pattern, totals, counted, faulted, touches.same .pins, touches.same .settings,
      touches.same .log, touches.same .bursts, touches.same .units, touches.same .inputs, touches.same .store,
      touches.same .tl, touches.same .supply, touches.same .ports⟩
    show Host.Outcome.next (expirePattern s) = _
    rw [expirePattern, if_pos (timeoutDue_of_late works inProgress late clear incomplete)]

end Sys2Proof.Machine.SourceLaws
end

section
/-! SUPPORT. The Time Base reads no mark register: from states that differ in the Mark Qualifier alone, what a mark makes of
them differs in the Mark Qualifier alone. One lemma for each operation that a mark or a change of source can reach. -/

namespace Sys2Proof.Machine.SourceLaws

set_option Elab.async false

/-- `t` is `s` but for the Mark Qualifier. -/
def Alike (s t : State) : Prop := ∃ m, t = { s with mq := m }

theorem alike_write (s : State) (m : MarkQualifier) : Alike s { s with mq := m } := ⟨m, rfl⟩

/-- What is alike is known by its Mark Qualifier. -/
theorem Alike.eq {s t : State} (h : Alike s t) : t = { s with mq := t.mq } := by
  obtain ⟨m, rfl⟩ := h
  rfl

/-- Two branches of one condition. -/
theorem Alike.ite {c : Prop} [Decidable c] {s s' t t' : State} (hs : Alike s s') (ht : Alike t t') :
    Alike (if c then s else t) (if c then s' else t') := by
  split
  · exact hs
  · exact ht

theorem Alike.foldl {α : Type} {f : State → α → State} (hf : ∀ {s t} x, Alike s t → Alike (f s x) (f t x)) (l : List α)
    {s t : State} (h : Alike s t) : Alike (l.foldl f s) (l.foldl f t) := by
  induction l generalizing s t with
  | nil => exact h
  | cons x l ih => exact ih (hf x h)

section
variable {s t : State}

/-! ### Notices, the store and the log -/

theorem postTo_alike (k : NoticeKind) (p : Port) (h : Alike s t) : Alike (postTo k p s) (postTo k p t) := by
  obtain ⟨m, rfl⟩ := h
  exact .ite ⟨m, rfl⟩ (.ite ⟨m, rfl⟩ ⟨m, rfl⟩)

theorem post_alike (k : NoticeKind) (h : Alike s t) : Alike (post k s) (post k t) :=
  postTo_alike k .c (postTo_alike k .b (postTo_alike k .a h))

theorem startProgram_alike (h : Alike s t) : Alike (startProgram s) (startProgram t) := by
  obtain ⟨m, rfl⟩ := h
  have works : working { s with mq := m } = working s := rfl
  unfold startProgram
  rw [works]
  dsimp only
  split
  · exact .ite ⟨m, rfl⟩ ⟨m, rfl⟩
  · exact ⟨m, rfl⟩

theorem request_alike (r : RecordId) (h : Alike s t) : Alike (request r s) (request r t) := by
  obtain ⟨m, rfl⟩ := h
  exact .ite ⟨m, rfl⟩ (.ite ⟨m, rfl⟩ (startProgram_alike ⟨m, rfl⟩))

theorem flagLost_alike (e : LogEntry) (h : Alike s t) : Alike (flagLost e s) (flagLost e t) := by
  obtain ⟨m, rfl⟩ := h
  unfold flagLost
  split
  · exact ⟨m, rfl⟩
  · exact ⟨m, rfl⟩

theorem moveCursor_alike (n : BitVec 16) (p : Port) (h : Alike s t) : Alike (moveCursor n s p) (moveCursor n t p) := by
  obtain ⟨m, rfl⟩ := h
  exact .ite (postTo_alike _ _ ⟨m, rfl⟩) ⟨m, rfl⟩

theorem removeOldest_alike (h : Alike s t) : Alike (removeOldest s) (removeOldest t) := by
  obtain ⟨m, rfl⟩ := h
  unfold removeOldest
  dsimp only
  split
  · exact ⟨m, rfl⟩
  · exact .ite ⟨m, rfl⟩ (moveCursor_alike _ .c (moveCursor_alike _ .b (moveCursor_alike _ .a (flagLost_alike _ ⟨m, rfl⟩))))

theorem makeEntry_alike (b : EntryBody) (x : FullStamp) (h : Alike s t) : Alike (makeEntry b x s) (makeEntry b x t) := by
  obtain ⟨m, removed⟩ := removeOldest_alike h
  unfold makeEntry
  rw [removed]
  exact ⟨m, rfl⟩

/-! ### The Shift Controller -/

theorem openHandoverBy_alike (o : OpenedBy) (e : Option (BitVec 4)) (x : FullStamp) (h : Alike s t) :
    Alike (openHandoverBy o e x s) (openHandoverBy o e x t) := by
  obtain ⟨m, rfl⟩ := h
  obtain ⟨n, posted⟩ := post_alike (s := { s with shift := { s.shift with
    state := .handoverOpen
    handover := some { openedBy := o, expected := e, stamp := x, reading := now s, released := none, accepted := none,
                       missed := 0 } } }) .handoverOpen ⟨m, rfl⟩
  exact ⟨n, congrArg ringBell posted⟩

theorem fireBoundary_alike (k : Nat) (b : Boundary) (d : BitVec 16) (x : FullStamp) (h : Alike s t) :
    Alike (fireBoundary k b d x s) (fireBoundary k b d x t) := by
  obtain ⟨m, rfl⟩ := h
  unfold fireBoundary
  dsimp only
  split
  · exact openHandoverBy_alike _ _ _ ⟨m, rfl⟩
  · exact ⟨m, rfl⟩
  · exact ⟨m, rfl⟩

theorem firePassed_alike (xs : List Passed) (h : Alike s t) : Alike (firePassed xs s) (firePassed xs t) := by
  refine Alike.foldl (fun x k => ?_) xs h
  obtain ⟨m, rfl⟩ := k
  exact .ite (fireBoundary_alike _ _ _ _ ⟨m, rfl⟩) ⟨m, rfl⟩

theorem reportStep_alike (x y : StationTime) (h : Alike s t) : Alike (reportStep x y s) (reportStep x y t) := by
  obtain ⟨m, rfl⟩ := h
  exact .ite ⟨m, rfl⟩ (.ite ⟨m, rfl⟩ (firePassed_alike _ ⟨m, rfl⟩))

theorem checkBoundary_alike (h : Alike s t) : Alike (checkBoundary s) (checkBoundary t) := by
  obtain ⟨m, rfl⟩ := h
  have found : boundaryAt { s with mq := m } = boundaryAt s := rfl
  unfold checkBoundary
  rw [found]
  dsimp only
  refine .ite ⟨m, rfl⟩ ?_
  split
  · exact ⟨m, rfl⟩
  · exact .ite (fireBoundary_alike _ _ _ _ ⟨m, rfl⟩) ⟨m, rfl⟩

/-! ### The clock state -/

theorem enterState_alike (x : ClockState) (h : Alike s t) : Alike (enterState x s) (enterState x t) := by
  obtain ⟨m, rfl⟩ := h
  exact .ite ⟨m, rfl⟩ (post_alike _ (.ite ⟨m, rfl⟩ ⟨m, rfl⟩))

theorem moveTo_alike (x : ClockState) (h : Alike s t) : Alike (moveTo x s) (moveTo x t) := by
  obtain ⟨m, rfl⟩ := h
  refine .ite ?_ (enterState_alike x ⟨m, rfl⟩)
  cases x <;> exact ⟨m, rfl⟩

theorem leaveUnset_alike (h : Alike s t) : Alike (leaveUnset s) (leaveUnset t) := by
  obtain ⟨m, rfl⟩ := h
  unfold leaveUnset
  dsimp only
  split
  · exact enterState_alike _ ⟨m, rfl⟩
  · exact enterState_alike _ ⟨m, rfl⟩
  · exact enterState_alike _ ⟨m, rfl⟩

theorem sourceChanged_alike (h : Alike s t) : Alike (sourceChanged s) (sourceChanged t) := by
  obtain ⟨m, rfl⟩ := h
  unfold sourceChanged
  dsimp only
  split
  · exact enterState_alike _ ⟨m, rfl⟩
  · exact enterState_alike _ ⟨m, rfl⟩
  · exact .ite ⟨m, rfl⟩ ⟨m, rfl⟩
  · exact ⟨m, rfl⟩

/-! ### Steps and boundaries -/

theorem recordStep_alike (x : Option StepSize) (f : Bool) (y : StepSource) (h : Alike s t) :
    Alike (recordStep x f y s) (recordStep x f y t) := by
  obtain ⟨m, rfl⟩ := h
  exact request_alike _ (post_alike _ (makeEntry_alike _ _ ⟨m, rfl⟩))

theorem dateStep_alike (d : PendingDate) (h : Alike s t) : Alike (dateStep d s) (dateStep d t) := by
  obtain ⟨m, rfl⟩ := h
  exact .ite (leaveUnset_alike (recordStep_alike _ _ _ ⟨m, rfl⟩)) (reportStep_alike _ _ (recordStep_alike _ _ _ ⟨m, rfl⟩))

theorem applyDate_alike (h : Alike s t) : Alike (applyDate s) (applyDate t) := by
  obtain ⟨m, rfl⟩ := h
  unfold applyDate
  dsimp only
  split
  · exact ⟨m, rfl⟩
  · exact .ite (.ite (leaveUnset_alike ⟨m, rfl⟩) ⟨m, rfl⟩) (dateStep_alike _ ⟨m, rfl⟩)

theorem startPulse_alike (h : Alike s t) : Alike (startPulse s) (startPulse t) := by
  obtain ⟨m, rfl⟩ := h
  exact .ite ⟨m, rfl⟩ ⟨m, rfl⟩

theorem decideSend_alike (h : Alike s t) : Alike (decideSend s) (decideSend t) := by
  obtain ⟨m, rfl⟩ := h
  exact .ite ⟨m, rfl⟩ (.ite ⟨m, rfl⟩ ⟨m, rfl⟩)

theorem boundaryLine_alike (h : Alike s t) : Alike (boundaryLine s) (boundaryLine t) := by
  obtain ⟨m, rfl⟩ := h
  exact decideSend_alike (.ite ⟨m, rfl⟩ ⟨m, rfl⟩)

theorem takeBoundary_alike (h : Alike s t) : Alike (takeBoundary s) (takeBoundary t) := by
  obtain ⟨m, rfl⟩ := h
  exact .ite ⟨m, rfl⟩ (checkBoundary_alike (boundaryLine_alike (startPulse_alike (applyDate_alike ⟨m, rfl⟩))))

theorem noteStep_alike (h : Alike s t) : Alike (noteStep s) (noteStep t) := by
  obtain ⟨m, rfl⟩ := h
  exact ⟨(noteStep { s with mq := m }).mq, rfl⟩

/-! ### An accepted mark -/

theorem trackingAfterStep_alike (h : Alike s t) :
    Alike (if disciplineState s.clk = .acquiring then s else moveTo .tracking s)
      (if disciplineState t.clk = .acquiring then t else moveTo .tracking t) := by
  obtain ⟨m, rfl⟩ := h
  exact .ite ⟨m, rfl⟩ (moveTo_alike _ ⟨m, rfl⟩)

theorem raiseEpoch_alike (h : Alike s t) : Alike (raiseEpoch s) (raiseEpoch t) := by
  obtain ⟨m, rfl⟩ := h
  exact ⟨m, rfl⟩

theorem stepAtMark_alike (x : HandedMark) (p : Int) (h : Alike s t) : Alike (stepAtMark x p s) (stepAtMark x p t) := by
  obtain ⟨m, rfl⟩ := h
  have reported := reportStep_alike s.clk.time
    (if 0 < p then s.clk.time.retreat p.toNat else s.clk.time.advance (-p).toNat)
    (recordStep_alike (some { seconds := 0, micros := Int.tdiv (-p) 10 }) false
      (if x.source = .fibre then StepSource.fibre else StepSource.line)
      (trackingAfterStep_alike (raiseEpoch_alike (noteStep_alike (alike_write { s with clk :=
        { ({ s.clk with
            time := if 0 < p then s.clk.time.retreat p.toNat else s.clk.time.advance (-p).toNat
            slew := 0 }.clearHistory.takeU 1) with silence := some (now s) } } m)))))
  exact .ite (takeBoundary_alike reported) reported

theorem slewMoves_alike (x : HandedMark) (p : Int) (h : Alike s t) : Alike (slewMoves x p s) (slewMoves x p t) := by
  obtain ⟨m, rfl⟩ := h
  unfold slewMoves
  dsimp only
  split
  · exact .ite (moveTo_alike _ ⟨m, rfl⟩) ⟨m, rfl⟩
  · exact .ite (.ite (moveTo_alike _ ⟨m, rfl⟩) ⟨m, rfl⟩) ⟨m, rfl⟩
  · exact .ite (moveTo_alike _ ⟨m, rfl⟩) ⟨m, rfl⟩
  · exact ⟨m, rfl⟩

theorem markWithoutStep_alike (x : HandedMark) (a b : Bool) (d : Int) (c : Option Candidate) (h : Alike s t) :
    Alike (markWithoutStep x a b d c s) (markWithoutStep x a b d c t) := by
  obtain ⟨m, rfl⟩ := h
  exact .ite (moveTo_alike _ ⟨m, rfl⟩) (.ite (slewMoves_alike _ _ ⟨m, rfl⟩) ⟨m, rfl⟩)

theorem markStart_alike (x : HandedMark) (h : Alike s t) : Alike (markStart x s) (markStart x t) := by
  obtain ⟨m, rfl⟩ := h
  exact .ite ⟨m, rfl⟩ ⟨m, rfl⟩

/-- The Time Base takes a mark without a look at the Mark Qualifier. -/
theorem processMark_alike (x : HandedMark) (h : Alike s t) : Alike (processMark x s) (processMark x t) := by
  have same : acquires x t.clk = acquires x s.clk := by
    obtain ⟨m, rfl⟩ := h
    rfl
  obtain ⟨m, started⟩ := markStart_alike x h
  rw [processMark_eq x s, processMark_eq x t, same, started]
  exact .ite (.ite (stepAtMark_alike _ _ ⟨m, rfl⟩) (markWithoutStep_alike _ _ _ _ _ ⟨m, rfl⟩))
    (markWithoutStep_alike _ _ _ _ _ ⟨m, rfl⟩)

end

end Sys2Proof.Machine.SourceLaws
end

section
/-! PROOF. A complete fibre pattern is a mark or a stray (O35): the judging of R32 and R33 as arithmetic, then what acceptance
and a stray make of the state. -/

namespace Sys2Proof.Machine.SourceLaws

set_option Elab.async false

/-! ### Whole numbers of seconds (R32, R33) -/

theorem distance_le_iff (d e tolerance : Nat) : distance d e ≤ tolerance ↔ d ≤ e + tolerance ∧ e ≤ d + tolerance := by
  unfold distance
  split <;> omega

theorem mem_markSeconds (n : Nat) : n ∈ [1, 2, 3, 4, 5, 6, 7, 8] ↔ 1 ≤ n ∧ n ≤ 8 := by
  simp only [List.mem_cons, List.not_mem_nil, or_false]
  omega

/-- A whole number of seconds found is one of 1 to 8 and lies within the tolerance. -/
theorem wholeSeconds_some {d tolerance n : Nat} (h : wholeSeconds d tolerance = some n) :
    (1 ≤ n ∧ n ≤ 8) ∧ d ≤ n * 10000000 + tolerance ∧ n * 10000000 ≤ d + tolerance := by
  have near := List.find?_some h
  exact ⟨(mem_markSeconds n).1 (List.mem_of_find?_eq_some h), (distance_le_iff _ _ _).1 (of_decide_eq_true near)⟩

/-- None is found exactly when none lies within the tolerance. -/
theorem wholeSeconds_eq_none_iff (d tolerance : Nat) :
    wholeSeconds d tolerance = none
      ↔ ∀ n, 1 ≤ n → n ≤ 8 → d + tolerance < n * 10000000 ∨ n * 10000000 + tolerance < d := by
  simp only [wholeSeconds, List.find?_eq_none, mem_markSeconds, decide_eq_true_eq, distance_le_iff, Config.second]
  constructor
  · intro h n low high
    have := h n ⟨low, high⟩
    omega
  · rintro h n ⟨low, high⟩
    have := h n low high
    omega

/-- Under half a second of tolerance the number found is the only one near. -/
theorem wholeSeconds_eq_some {d tolerance n : Nat} (narrow : tolerance ≤ 50000) (low : 1 ≤ n) (high : n ≤ 8)
    (above : d ≤ n * 10000000 + tolerance) (below : n * 10000000 ≤ d + tolerance) : wholeSeconds d tolerance = some n := by
  cases found : wholeSeconds d tolerance with
  | none =>
    have := (wholeSeconds_eq_none_iff d tolerance).1 found n low high
    omega
  | some k =>
    obtain ⟨_, near, nearer⟩ := wholeSeconds_some found
    congr 1
    omega

/-- A stray follows an earlier one by 1 to 8 whole seconds, within 20 tbc (R33). -/
theorem follows_iff (instant y : Reading) :
    follows instant y = true ↔ ∃ k, 1 ≤ k ∧ k ≤ 8 ∧ elapsedBetween y instant ≤ k * 10000000 + 20
      ∧ k * 10000000 ≤ elapsedBetween y instant + 20 := by
  unfold follows
  rw [Option.isSome_iff_exists]
  constructor
  · rintro ⟨k, found⟩
    obtain ⟨⟨low, high⟩, near⟩ := wholeSeconds_some found
    exact ⟨k, low, high, near⟩
  · rintro ⟨k, low, high, above, below⟩
    exact ⟨k, wholeSeconds_eq_some (by omega) low high above below⟩

/-! ### The verdict (R32) -/

theorem judge_acquisition {ref : Option Reading} {instant w : Nat}
    (h : ref = none ∨ ∃ r, ref = some r ∧ 80000000 + w < elapsedBetween r instant) : judge ref instant w = .acquisition := by
  rcases h with rfl | ⟨r, rfl, past⟩
  · rfl
  · simp [judge, Config.second, past]

theorem judge_inWindow {r instant w n : Nat} (narrow : w ≤ 50000) (low : 1 ≤ n) (high : n ≤ 8)
    (above : elapsedBetween r instant ≤ n * 10000000 + w) (below : n * 10000000 ≤ elapsedBetween r instant + w) :
    judge (some r) instant w = .inWindow n := by
  have near : ¬ 8 * 10000000 + w < elapsedBetween r instant := by omega
  simp [judge, Config.second, near, wholeSeconds_eq_some narrow low high above below]

theorem judge_stray {r instant w : Nat} (near : elapsedBetween r instant ≤ 80000000 + w)
    (off : ∀ n, 1 ≤ n → n ≤ 8 → elapsedBetween r instant + w < n * 10000000 ∨ n * 10000000 + w < elapsedBetween r instant) :
    judge (some r) instant w = .stray := by
  have recent : ¬ 8 * 10000000 + w < elapsedBetween r instant := by omega
  simp [judge, Config.second, recent, (wholeSeconds_eq_none_iff _ _).2 off]

/-! ### The streak (R33) -/

theorem streakAfter_one (instant y : Reading) :
    streakAfter [y] instant = if follows instant y then ([y, instant], false) else ([instant], false) := rfl

theorem streakAfter_two (instant y z : Reading) :
    streakAfter [y, z] instant = if follows instant y && follows instant z then ([], true) else ([instant], false) := rfl

/-! ### The complete pattern (R30) -/

/-- A pattern complete now, of a fibre that is not FAULTED. -/
def PatternReady (x : Pattern) (s : State) : Prop :=
  working s = true ∧ s.mq.pattern = some x ∧ s.mq.recogniser = .secondHigh ∧ 2000 ≤ since s s.mq.phaseStart
    ∧ elapsedBetween x.start s.mq.phaseStart + 2000 ≤ 20000
    ∧ (∀ e, s.mq.edge = some e → 2000 ≤ elapsedBetween s.mq.phaseStart e.reading)
    ∧ s.mq.faulted = false ∧ s.settings.time.markWindow ≤ 50000

/-- The recogniser waits for the high of a complete pattern to end. -/
def patternTaken (s : State) : State := { s with mq := { s.mq with recogniser := .waitLow, pattern := none } }

theorem completeDue_of_ready {x : Pattern} {s : State} (h : PatternReady x s) : completeDue s = true := by
  obtain ⟨works, inProgress, second, long, inTime, later, _⟩ := h
  have clear : edgeClear s s.mq.phaseStart 2000 = true := by
    unfold edgeClear
    split
    · rfl
    next e waits => simp [later e waits]
  simp [completeDue, second, inProgress, works, Config.patternLevel, Config.patternLimit, long, inTime, clear]

theorem completePattern_ready {x : Pattern} {s : State} (h : PatternReady x s) :
    completePattern s = judgeFibre x (patternTaken s) := by
  have due := completeDue_of_ready h
  obtain ⟨_, inProgress, _⟩ := h
  simp [completePattern, inProgress, due, patternTaken]

/-! ### Acceptance (R32 to R35, R38, R39) -/

/-- The registers of an accepted fibre mark as the Time Base is handed it. -/
def acceptedMarks (x : Pattern) (at_ : Reading) (m : MarkQualifier) : MarkQualifier :=
  { m with
    recogniser := .waitLow, pattern := none, fibreRef := some x.start, faultCounter := m.faultCounter - 1, streak := [],
    fibrePresence := some at_, selected := .fibre, firstAfterChange := false,
    lineRef := if m.selected = .line then none else m.lineRef,
    totals := { m.totals with fibreAccepted := satSucc top32 m.totals.fibreAccepted } }

/-- The registers at which the source is evaluated. -/
def countedMarks (x : Pattern) (at_ : Reading) (m : MarkQualifier) : MarkQualifier :=
  { m with
    recogniser := .waitLow, pattern := none, fibreRef := some x.start, faultCounter := m.faultCounter - 1, streak := [],
    fibrePresence := some at_, totals := { m.totals with fibreAccepted := satSucc top32 m.totals.fibreAccepted } }

/-- A change of source is reported before the mark is handed over (R34, R39). -/
theorem evaluateSource_alike (s : State) (m : MarkQualifier) :
    (selectable { s with mq := m } = m.selected → Alike s (evaluateSource { s with mq := m }))
      ∧ (selectable { s with mq := m } ≠ m.selected → Alike (sourceChanged s) (evaluateSource { s with mq := m })) := by
  constructor
  · intro same
    rw [evaluateSource, if_pos same]
    exact ⟨m, rfl⟩
  · intro change
    rw [evaluateSource, if_neg change]
    obtain ⟨n, reported⟩ := sourceChanged_alike
      (alike_write s { m with selected := selectable { s with mq := m } })
    dsimp only at reported ⊢
    rw [reported]
    exact ⟨_, rfl⟩

/-- An accepted mark is handed over from the state as it stands, or after the report of a change of source. -/
theorem acceptFibre_hands (x : Pattern) (n : Option Nat) (s : State) (healthy : s.mq.faulted = false) :
    ∃ v, v.mq = acceptedMarks x (now s) s.mq
      ∧ (s.mq.selected = .fibre → Alike s v ∧ acceptFibre x n (patternTaken s) = processMark
          { fraction := x.fraction, source := .fibre, n := if s.mq.firstAfterChange then none else n } v)
      ∧ (s.mq.selected ≠ .fibre → Alike (sourceChanged s) v ∧ acceptFibre x n (patternTaken s) = processMark
          { fraction := x.fraction, source := .fibre, n := none } v) := by
  have fibre : selectable { s with mq := countedMarks x (now s) s.mq } = .fibre := by
    simp [selectable, countedMarks, healthy]
  have marks := evaluateSource_mq { s with mq := countedMarks x (now s) s.mq }
  obtain ⟨stays, changes⟩ := evaluateSource_alike s (countedMarks x (now s) s.mq)
  have handed : acceptFibre x n (patternTaken s)
      = handMark x.fraction .fibre n (evaluateSource { s with mq := countedMarks x (now s) s.mq }) := rfl
  rw [fibre] at marks stays changes
  generalize evaluateSource { s with mq := countedMarks x (now s) s.mq } = w at marks stays changes handed
  refine ⟨{ w with mq := { w.mq with firstAfterChange := false } }, ?_, fun same => ⟨?_, ?_⟩, fun other => ⟨?_, ?_⟩⟩
  · by_cases same : s.mq.selected = .fibre
    · simp [marks, countedMarks, acceptedMarks, same]
    · simp [marks, countedMarks, acceptedMarks, Ne.symm same]
  · obtain ⟨m, rfl⟩ := stays same.symm
    exact ⟨_, rfl⟩
  · have kept : w.mq.firstAfterChange = s.mq.firstAfterChange := by simp [marks, countedMarks, same]
    rw [handed, handMark, kept]
  · obtain ⟨m, rfl⟩ := changes (Ne.symm other)
    exact ⟨_, rfl⟩
  · have set : w.mq.firstAfterChange = true := by simp [marks, countedMarks, Ne.symm other]
    rw [handed, handMark, set]
    rfl

/-- The mark is accepted, and the Time Base takes it (O35). -/
def TakesMark (x : Pattern) (n : Option Nat) (s : State) : Prop :=
  ∃ t, exec .patternComplete s = .next t
    ∧ t.mq.fibreRef = some x.start ∧ t.mq.pattern = none ∧ t.mq.recogniser = .waitLow
    ∧ t.mq.faultCounter = s.mq.faultCounter - 1 ∧ t.mq.streak = [] ∧ t.mq.fibrePresence = some (now s)
    ∧ t.mq.selected = .fibre ∧ t.mq.firstAfterChange = false
    ∧ t.mq.lineRef = (if s.mq.selected = .line then none else s.mq.lineRef)
    ∧ t.mq.totals = { s.mq.totals with fibreAccepted := satSucc 4294967295 s.mq.totals.fibreAccepted }
    ∧ (s.mq.selected = .fibre → t = { processMark
        { fraction := x.fraction, source := .fibre, n := if s.mq.firstAfterChange then none else n } s with mq := t.mq })
    ∧ (s.mq.selected ≠ .fibre →
        t = { processMark { fraction := x.fraction, source := .fibre, n := none } (sourceChanged s) with mq := t.mq })

/-- What the Time Base makes of a mark leaves the registers of acceptance. -/
theorem processMark_accepted {x : Pattern} {at_ : Reading} {m : MarkQualifier} {y : HandedMark} {v : State}
    (h : v.mq = acceptedMarks x at_ m) :
    let q := (processMark y v).mq
    q.fibreRef = some x.start ∧ q.pattern = none ∧ q.recogniser = .waitLow ∧ q.faultCounter = m.faultCounter - 1
      ∧ q.streak = [] ∧ q.fibrePresence = some at_ ∧ q.selected = .fibre ∧ q.firstAfterChange = false
      ∧ q.lineRef = (if m.selected = .line then none else m.lineRef)
      ∧ q.totals = { m.totals with fibreAccepted := satSucc 4294967295 m.totals.fibreAccepted } := by
  dsimp only
  rcases processMark_mq y v with marks | marks
  · rw [marks, h]
    exact ⟨rfl, rfl, rfl, rfl, rfl, rfl, rfl, rfl, rfl, rfl⟩
  · rw [marks, h]
    exact ⟨rfl, rfl, rfl, rfl, rfl, rfl, rfl, rfl, rfl, rfl⟩

theorem takesMark_of_accept {x : Pattern} {n : Option Nat} {s : State} (ready : PatternReady x s)
    (accepted : judgeFibre x (patternTaken s) = acceptFibre x n (patternTaken s)) : TakesMark x n s := by
  have taken : exec .patternComplete s = .next (acceptFibre x n (patternTaken s)) := by
    rw [← accepted, ← completePattern_ready ready]
    rfl
  obtain ⟨_, _, _, _, _, _, healthy, _⟩ := ready
  obtain ⟨v, marks, stays, changes⟩ := acceptFibre_hands x n s healthy
  refine ⟨_, taken, ?_⟩
  by_cases same : s.mq.selected = .fibre
  · obtain ⟨alike, handed⟩ := stays same
    rw [handed]
    obtain ⟨ref, pattern, recogniser, counter, streak, presence, selected, first, line, totals⟩ :=
      processMark_accepted (y := { fraction := x.fraction, source := .fibre, n := if s.mq.firstAfterChange then none else n })
        marks
    exact ⟨ref, pattern, recogniser, counter, streak, presence, selected, first, line, totals,
      fun _ => (processMark_alike _ alike).eq, fun other => absurd same other⟩
  · obtain ⟨alike, handed⟩ := changes same
    rw [handed]
    obtain ⟨ref, pattern, recogniser, counter, streak, presence, selected, first, line, totals⟩ :=
      processMark_accepted (y := { fraction := x.fraction, source := .fibre, n := none }) marks
    exact ⟨ref, pattern, recogniser, counter, streak, presence, selected, first, line, totals,
      fun fibre => absurd fibre same, fun _ => (processMark_alike _ alike).eq⟩

/-! ### A stray (R33, R35) -/

/-- The mark is a stray that is not accepted, and the streak is as given after it (O35). -/
def IsStray (s : State) (streak : List Reading) : Prop :=
  (s.mq.faultCounter ≤ 30 →
    exec .patternComplete s = .next { s with mq := { s.mq with
      recogniser := .waitLow, pattern := none, streak := streak, faultCounter := s.mq.faultCounter + 1,
      totals := { s.mq.totals with fibreStrays := satSucc 4294967295 s.mq.totals.fibreStrays } } })
    ∧ (31 ≤ s.mq.faultCounter → ∃ t, exec .patternComplete s = .next t
        ∧ t.mq.faulted = true ∧ t.mq.faultCounter = 32 ∧ t.mq.recogniser = .suspended ∧ t.mq.streak = []
        ∧ t.mq.totals = { s.mq.totals with fibreStrays := satSucc 4294967295 s.mq.totals.fibreStrays })

/-- The registers of a stray, before the fault counter. -/
def strayMarks (streak : List Reading) (m : MarkQualifier) : MarkQualifier :=
  { m with
    recogniser := .waitLow, pattern := none, streak := streak
    totals := { m.totals with fibreStrays := satSucc top32 m.totals.fibreStrays } }

theorem isStray_of_stray {x : Pattern} {s : State} {streak : List Reading} (ready : PatternReady x s)
    (judged : judgeFibre x (patternTaken s) = fibreStray x (patternTaken s))
    (after : streakAfter s.mq.streak x.start = (streak, false)) : IsStray s streak := by
  have stray : fibreStray x (patternTaken s) = addFault { s with mq := strayMarks streak s.mq } := by
    have here : streakAfter (patternTaken s).mq.streak x.start = (streak, false) := after
    rw [fibreStray, here]
    rfl
  have taken : exec .patternComplete s = .next (addFault { s with mq := strayMarks streak s.mq }) := by
    rw [← stray, ← judged, ← completePattern_ready ready]
    rfl
  refine ⟨fun counter => ?_, fun past => ?_⟩
  · rw [taken, addFault_counts (s := { s with mq := strayMarks streak s.mq }) counter]
    rfl
  · obtain ⟨faulted, count, recogniser, emptied, _, totals, _⟩ := faulted_mq s (strayMarks streak s.mq)
    rw [addFault_faults (s := { s with mq := strayMarks streak s.mq }) past] at taken
    exact ⟨_, taken, faulted, count, recogniser, emptied, totals⟩

/-- A stray that completes the streak is accepted as an acquisition mark. -/
theorem takesMark_of_streak {x : Pattern} {s : State} {streak : List Reading} (ready : PatternReady x s)
    (judged : judgeFibre x (patternTaken s) = fibreStray x (patternTaken s))
    (after : streakAfter s.mq.streak x.start = (streak, true)) : TakesMark x none s := by
  refine takesMark_of_accept ready (judged.trans ?_)
  have here : streakAfter (patternTaken s).mq.streak x.start = (streak, true) := after
  rw [fibreStray, here]
  rfl

/-- What becomes of a mark that is neither an acquisition mark nor in window, by the streak (R33). -/
theorem strayByStreak {x : Pattern} {s : State} (ready : PatternReady x s)
    (judged : judgeFibre x (patternTaken s) = fibreStray x (patternTaken s)) :
    (s.mq.streak = [] → IsStray s [x.start])
      ∧ (∀ y, s.mq.streak = [y] → (follows x.start y = true → IsStray s [y, x.start])
          ∧ (¬ follows x.start y = true → IsStray s [x.start]))
      ∧ (∀ y z, s.mq.streak = [y, z] →
          (follows x.start y = true ∧ follows x.start z = true → TakesMark x none s)
            ∧ (¬ (follows x.start y = true ∧ follows x.start z = true) → IsStray s [x.start])) := by
  refine ⟨fun empty => ?_, fun y one => ⟨fun joins => ?_, fun apart => ?_⟩,
    fun y z two => ⟨fun completes => ?_, fun apart => ?_⟩⟩
  · exact isStray_of_stray ready judged (by rw [empty]; rfl)
  · exact isStray_of_stray ready judged (by rw [one, streakAfter_one, if_pos joins])
  · exact isStray_of_stray ready judged (by rw [one, streakAfter_one, if_neg apart])
  · exact takesMark_of_streak ready judged (by rw [two, streakAfter_two, if_pos (by simpa using completes)])
  · exact isStray_of_stray ready judged (by rw [two, streakAfter_two, if_neg (by simpa using apart)])

/-! ### The statement -/

/-- The judging of a mark that no step has overtaken. -/
theorem judgeFibre_taken {x : Pattern} {s : State} (fresh : x.stepped = false) :
    judgeFibre x (patternTaken s) =
      match judge s.mq.fibreRef x.start s.settings.time.markWindow with
      | .acquisition => acceptFibre x none (patternTaken s)
      | .inWindow n => acceptFibre x (some n) (patternTaken s)
      | .stray => fibreStray x (patternTaken s) := by
  rw [judgeFibre, if_neg (by simp [fresh])]
  rfl

/-- Settles O35, by the verdict of R32: acquisition, in window or stray, and for a stray by the streak. -/
theorem aCompletePatternIsAMarkOrAStray : Obligations.ACompletePatternIsAMarkOrAStray := by
  unfold Obligations.ACompletePatternIsAMarkOrAStray
  refine ⟨fun x s ready fresh => ⟨fun old => ?_, fun r n ref low high above below => ?_⟩,
    fun x r s ready fresh ref near off => ?_, fun x s ready overtaken => ?_⟩
  · refine takesMark_of_accept (n := none) ready ?_
    rw [judgeFibre_taken fresh, judge_acquisition old]
  · obtain ⟨_, _, _, _, _, _, _, narrow⟩ := id ready
    refine takesMark_of_accept (n := some n) ready ?_
    rw [judgeFibre_taken fresh, ref, judge_inWindow narrow low high above below]
  · have judged : judgeFibre x (patternTaken s) = fibreStray x (patternTaken s) := by
      rw [judgeFibre_taken fresh, ref, judge_stray near off]
    have byStreak := strayByStreak ready judged
    simp only [follows_iff] at byStreak
    exact byStreak
  · show Host.Outcome.next (completePattern s) = _
    rw [completePattern_ready ready, judgeFibre, if_pos overtaken]
    rfl

end Sys2Proof.Machine.SourceLaws
end

section
/-! SUPPORT. What LineInv reads of a state, and the operations of the other blocks that leave it: they may move the clock's
registers, but neither the elapsed base nor TIME_LINE. -/

namespace Sys2Proof.Machine.LineLaws

open SourceLaws

set_option Elab.async false

/-! ### What LineInv reads -/

/-- The registers of the Time Line Controller, the elapsed base, the other parties' level and whether the part works: all that
LineInv reads. -/
structure LineView where
  sendState : SendState
  receiver : Receiver
  capture : Option StartCapture
  outgoing : Option (BitVec 56)
  freeCount : Nat
  highSince : Option Reading
  readBits : List Bool
  reading : Reading
  others : Level
  works : Bool

def lineView (s : State) : LineView where
  sendState := s.tl.sendState
  receiver := s.tl.receiver
  capture := s.tl.capture
  outgoing := s.tl.outgoing
  freeCount := s.tl.freeCount
  highSince := s.tl.highSince
  readBits := s.tl.readBits
  reading := now s
  others := s.pins.timeLine
  works := working s

/-- An operation that touches neither the line, the clock, the pins nor the supply leaves the view. -/
theorem lineView_of_touches {bs : List Block} {s t : State} (h : Touches bs s t) (hclk : .clk ∉ bs := by decide)
    (htl : .tl ∉ bs := by decide) (hsup : .supply ∉ bs := by decide) (hpin : .pins ∉ bs := by decide) :
    lineView t = lineView s := by
  have line : t.tl = s.tl := h.same .tl htl
  have pins : t.pins = s.pins := h.same .pins hpin
  have reading : now t = now s := now_congr (h.same .clk hclk)
  have works : working t = working s := working_congr (h.same .supply hsup)
  simp only [lineView, line, pins, reading, works]

/-- The level is read off the view. -/
theorem lineLevel_of_view {s t : State} (h : lineView t = lineView s) : lineLevel t = lineLevel s := by
  simp only [lineView, LineView.mk.injEq] at h
  obtain ⟨send, _, capture, outgoing, _, _, _, reading, others, works⟩ := h
  refine lineLevel_congr t s reading others ?_
  simp only [sendingNow, works, send, outgoing, capture]

theorem lineInv_of_view {s t : State} (h : lineView t = lineView s) (hs : LineInv s) : LineInv t := by
  have level := lineLevel_of_view h
  simp only [lineView, LineView.mk.injEq] at h
  obtain ⟨send, receiver, capture, outgoing, count, since, bits, _, _, works⟩ := h
  unfold LineInv
  rw [send, receiver, capture, outgoing, count, since, bits, works, level]
  exact hs

/-- What an operation of the other blocks touches is no concern of the line. -/
theorem lineInv_of_touches {bs : List Block} {s t : State} (hs : LineInv s) (h : Touches bs s t)
    (hclk : .clk ∉ bs := by decide) (htl : .tl ∉ bs := by decide) (hsup : .supply ∉ bs := by decide)
    (hpin : .pins ∉ bs := by decide) : LineInv t := lineInv_of_view (lineView_of_touches h hclk htl hsup hpin) hs

/-! ### The clock state (R14 to R19) -/

theorem lineView_enterState (x : ClockState) (s : State) : lineView (enterState x s) = lineView s := by
  unfold enterState
  split
  · rfl
  · extract_lets g src t
    have entered : lineView t = lineView s := rfl
    clear_value t
    refine (lineView_of_touches (post_touches _ _)).trans ?_
    split
    · exact (lineView_of_touches (judgeWorst_touches t)).trans entered
    · exact entered

theorem lineView_moveTo (x : ClockState) (s : State) : lineView (moveTo x s) = lineView s := by
  unfold moveTo
  split
  · split <;> rfl
  · exact lineView_enterState x s

theorem lineView_marksStopped (s : State) : lineView (marksStopped s) = lineView s := by
  have holdover : lineView (enterHoldover s) = lineView s := lineView_enterState _ _
  unfold marksStopped
  split <;> first | exact holdover | rfl

theorem lineView_expireSilence (s : State) : lineView (expireSilence s) = lineView s := by
  unfold expireSilence
  split
  · rfl
  · exact lineView_marksStopped _

theorem lineView_growHoldover (s : State) : lineView (growHoldover s) = lineView s := by
  unfold growHoldover
  split
  · rfl
  · dsimp only
    split
    · exact lineView_enterState _ _
    · rfl

theorem lineView_sourceChanged (s : State) : lineView (sourceChanged s) = lineView s := by
  unfold sourceChanged
  dsimp only
  split
  · exact lineView_enterState _ _
  · exact lineView_enterState _ _
  · split <;> rfl
  · rfl

theorem lineView_leaveUnset (s : State) : lineView (leaveUnset s) = lineView s := by
  unfold leaveUnset
  split <;> exact lineView_enterState _ _

/-! ### Steps, dates and boundaries (R10, R20 to R23) -/

/-- What a step enters and reports, once the clock has moved (R10, R158). -/
theorem lineView_reportedStep (x y : StationTime) (size : Option StepSize) (f : Bool) (source : StepSource) (s : State) :
    lineView (reportStep x y (recordStep size f source s)) = lineView s :=
  (lineView_of_touches (reportStep_touches x y _)).trans (lineView_of_touches (recordStep_touches size f source s))

theorem lineView_offerToSlot (d : BitVec 16) (n : Nat) (who : Setter) (s : State) :
    lineView (offerToSlot d n who s) = lineView s := by
  unfold offerToSlot
  dsimp only
  split
  · exact (lineView_of_touches (postWhere_touches _ _ _)).trans rfl
  · rfl

theorem lineView_dateStep (d : PendingDate) (s : State) : lineView (dateStep d s) = lineView s := by
  unfold dateStep
  extract_lets shown first src t
  have dated : lineView t = lineView s := rfl
  clear_value t
  split
  · exact (lineView_leaveUnset _).trans ((lineView_of_touches (recordStep_touches _ _ _ t)).trans dated)
  · exact (lineView_reportedStep _ _ _ _ _ t).trans dated

theorem lineView_applyDate (s : State) : lineView (applyDate s) = lineView s := by
  unfold applyDate
  split
  · rfl
  · dsimp only
    split
    · split
      · exact lineView_leaveUnset _
      · rfl
    · exact lineView_dateStep _ _

theorem lineView_startPulse (s : State) : lineView (startPulse s) = lineView s := by
  unfold startPulse
  split <;> rfl

/-! ### A mark that takes no step (R8, R15) -/

theorem lineView_slewMoves (m : HandedMark) (p : Int) (s : State) : lineView (slewMoves m p s) = lineView s := by
  unfold slewMoves
  dsimp only
  split
  · split
    · exact lineView_moveTo _ _
    · rfl
  · split
    · split
      · exact lineView_moveTo _ _
      · rfl
    · rfl
  · split
    · exact lineView_moveTo _ _
    · rfl
  · rfl

theorem lineView_markWithoutStep (m : HandedMark) (a b : Bool) (d : Int) (c : Option Candidate) (s : State) :
    lineView (markWithoutStep m a b d c s) = lineView s := by
  unfold markWithoutStep markMoves
  dsimp only
  split
  · exact lineView_moveTo _ _
  · split
    · exact lineView_slewMoves _ _ _
    · rfl

theorem lineView_markStart (m : HandedMark) (s : State) : lineView (markStart m s) = lineView s := by
  unfold markStart
  split <;> rfl

/-! ### The source and the recogniser (R30, R31, R35, R38, R39) -/

theorem lineView_evaluateSource (s : State) : lineView (evaluateSource s) = lineView s := by
  unfold evaluateSource
  split
  · rfl
  · exact lineView_sourceChanged _

theorem lineView_expireFibrePresence (s : State) : lineView (expireFibrePresence s) = lineView s := by
  unfold expireFibrePresence
  split
  · rfl
  · exact lineView_evaluateSource _

theorem lineView_expirePeerPresence (s : State) : lineView (expirePeerPresence s) = lineView s := by
  unfold expirePeerPresence
  split
  · rfl
  · exact lineView_evaluateSource _

theorem lineView_addFault (s : State) : lineView (addFault s) = lineView s := by
  unfold addFault
  split
  · rfl
  · exact (lineView_evaluateSource _).trans ((lineView_of_touches (post_touches _ _)).trans rfl)

theorem lineView_discardPattern (s : State) : lineView (discardPattern s) = lineView s :=
  (lineView_of_touches (settleRecogniser_touches _)).trans ((lineView_addFault _).trans rfl)

theorem lineView_expirePattern (s : State) : lineView (expirePattern s) = lineView s := by
  unfold expirePattern
  split
  · exact lineView_discardPattern s
  · rfl

theorem lineView_phaseEdge (e : FibreEdge) (l : Level) (s : State) : lineView (phaseEdge e l s) = lineView s := by
  unfold phaseEdge
  dsimp only
  split
  · rfl
  · rfl
  · split
    · rfl
    · exact lineView_discardPattern s
  · split
    · rfl
    · exact lineView_discardPattern s
  · exact lineView_discardPattern s
  · rfl

/-! ### The rows of the clock and of the pins -/

theorem lineView_endPulse (s : State) : lineView (endPulse s) = lineView s := by
  unfold endPulse
  split <;> rfl

theorem lineView_takeTenth (s : State) : lineView (takeTenth s) = lineView s := by
  unfold takeTenth
  split
  · rfl
  · dsimp only
    split
    · rfl
    · exact (lineView_of_touches (Touches.foldl growUnit_touches _ _)).trans rfl

theorem lineView_leadingEdge (i : Fin 16) (s : State) : lineView (leadingEdge i s) = lineView s := by
  have taken : ∀ t, Touches [.inputs] t (takeLeading i t) := by
    intro t
    unfold takeLeading
    split <;> exact .write
  unfold leadingEdge
  split
  · rfl
  · dsimp only
    split
    · exact (lineView_of_touches (taken _)).trans rfl
    · rfl

theorem lineView_trailingEdge (i : Fin 16) (s : State) : lineView (trailingEdge i s) = lineView s := by
  have taken : ∀ t, Touches [.inputs, .log, .bursts, .notices] t (takeTrailing i t) := by
    intro t
    unfold takeTrailing
    split <;> first | exact .write | exact .refl | exact scoreInput_touches _ _ _ _
  unfold trailingEdge
  split
  · rfl
  · dsimp only
    split
    · exact (lineView_of_touches (taken _)).trans rfl
    · rfl

theorem lineView_changeCode (u : Fin 8) (code : BitVec 4) (s : State) : lineView (changeCode u code s) = lineView s := by
  unfold changeCode
  split
  · rfl
  · dsimp only
    split
    · exact (lineView_of_touches (decodeUnit_touches _ _)).trans rfl
    · rfl

theorem lineView_lineReset (s : State) : lineView (lineReset s) = lineView s := by
  unfold lineReset
  split
  · rfl
  · dsimp only
    split <;> rfl

/-! ### What the part's commands write of the line that LineInv does not read -/

theorem lineView_yieldStandby (s : State) : lineView (yieldStandby s) = lineView s := by
  unfold yieldStandby
  split <;> rfl

theorem lineView_takeOver (s : State) : lineView (takeOver s) = lineView s := by
  unfold takeOver
  split <;> rfl

theorem lineView_judgeSender (t : Telegram) (s : State) : lineView (judgeSender t s) = lineView s := by
  unfold judgeSender
  split
  · exact lineView_of_touches (post_touches _ _)
  · rfl

theorem lineView_crossCheck (t : Telegram) (c : StartCapture) (s : State) : lineView (crossCheck t c s) = lineView s := by
  have counted : lineView (countDisagreement s) = lineView s := by
    unfold countDisagreement
    extract_lets tl counts t old
    have written : lineView t = lineView s := rfl
    clear_value old
    split
    · exact (lineView_of_touches (post_touches _ _)).trans rfl
    · exact written
  unfold crossCheck
  split
  · rfl
  · split
    · exact counted
    · rfl

theorem lineView_offerLineDate (t : Telegram) (c : StartCapture) (s : State) :
    lineView (offerLineDate t c s) = lineView s := by
  unfold offerLineDate
  split
  · exact lineView_offerToSlot _ _ _ _
  · rfl

theorem lineView_yieldToPeer (c : StartCapture) (s : State) : lineView (yieldToPeer c s) = lineView s := by
  unfold yieldToPeer
  split
  · exact lineView_yieldStandby s
  · rfl

end Sys2Proof.Machine.LineLaws
end

section
/-! SUPPORT. What the block of each port command touches: one lemma for each command that writes. -/

namespace Sys2Proof.Machine.LineLaws

open SourceLaws

set_option Elab.async false

theorem unlessLocked_touches {bs : List Block} {p : Port} {g : Group} {body : State → Reply} {s : State}
    (h : Touches bs s (body s).state) : Touches bs s (unlessLocked p g body s).state := by
  unfold unlessLocked
  split
  · exact .refl
  · exact h

/-! ### The commands of the Time Base, the Mark Qualifier and the line -/

theorem setMarkWindow_touches (p : Port) (args : List Byte) (s : State) :
    Touches [.settings] s (setMarkWindow p args s).state := unlessLocked_touches .write

theorem setLine_touches (p : Port) (args : List Byte) (s : State) : Touches [.settings] s (setLine p args s).state := by
  unfold setLine
  dsimp only
  split
  · exact .refl
  · exact unlessLocked_touches .write

/-! ### The commands of the inputs, the log and the bursts -/

theorem allowInput_touches (args : List Byte) (s : State) :
    Touches [.inputs, .log, .bursts, .shift, .units, .store, .ports, .notices] s (allowInput args s).state := by
  unfold allowInput
  split
  · exact .refl
  · split
    · exact .refl
    · dsimp only
      split
      · exact (makeAssert_touches _ _ _ _).after (Touches.write (bs := [.inputs])).within
      · exact .write

theorem setInput_touches (p : Port) (args : List Byte) (s : State) :
    Touches [.settings, .inputs] s (setInput p args s).state := by
  unfold setInput
  split
  · exact unlessLocked_touches ((applySetting_touches _ _ _).after .write)
  · exact .refl

theorem setChatterInterval_touches (p : Port) (args : List Byte) (s : State) :
    Touches [.settings] s (setChatterInterval p args s).state := unlessLocked_touches .write

theorem readInput_touches (args : List Byte) (s : State) : Touches [] s (readInput args s).state := by
  unfold readInput
  split <;> exact .refl

theorem readLog_touches (p : Port) (n : Nat) (s : State) : Touches [.log] s (readLog p n s).state := .write

theorem seekLog_touches (p : Port) (x : BitVec 16) (s : State) : Touches [.log] s (seekLog p x s).state := .write

theorem ackBurst_touches (p : Port) (n : BitVec 16) (s : State) :
    Touches [.bursts, .shift, .units, .store, .ports, .notices] s (ackBurst p n s).state := by
  unfold ackBurst
  split
  · exact .refl
  · split
    · exact .refl
    · split
      · exact .refl
      · exact replaceRecord_touches _ _ s

theorem readBurst_touches (n : BitVec 16) (s : State) : Touches [] s (readBurst n s).state := by
  unfold readBurst
  split <;> exact .refl

theorem setFilter_touches (p : Port) (args : List Byte) (s : State) :
    Touches [.settings] s (setFilter p args s).state := by
  unfold setFilter
  split
  · exact unlessLocked_touches .write
  · exact .refl

theorem setBurstGap_touches (p : Port) (args : List Byte) (s : State) :
    Touches [.settings, .bursts] s (setBurstGap p args s).state :=
  unlessLocked_touches ((judgeGap_touches _).after .write)

/-! ### The commands of the units and of the store -/

theorem setModeTable_touches (p : Port) (args : List Byte) (s : State) :
    Touches [.settings, .units] s (setModeTable p args s).state := by
  have decoded : ∀ t, Touches [.units] t (allUnits.foldl (fun t u => if isFitted t u then decodeUnit u t else t) t) := by
    refine fun t => Touches.foldl (fun t u => ?_) _ _
    split
    · exact decodeUnit_touches _ _
    · exact .refl
  unfold setModeTable
  split
  · exact .refl
  · split
    · exact unlessLocked_touches ((decoded _).after .write)
    · exact .refl

theorem setUnits_touches (p : Port) (args : List Byte) (s : State) :
    Touches [.settings, .units, .store, .ports, .notices] s (setUnits p args s).state := by
  unfold setUnits
  dsimp only
  split
  · exact .refl
  · exact unlessLocked_touches ((Touches.foldl (fun t u => expireSettle_touches u t) _ _).after
      ((Touches.foldl (refit_touches _) _ _).after (Touches.write (bs := [.settings])).within))

theorem setServiceLimit_touches (p : Port) (args : List Byte) (s : State) :
    Touches [.settings, .units, .notices] s (setServiceLimit p args s).state := by
  unfold setServiceLimit
  split
  · exact .refl
  · exact unlessLocked_touches ((serviceTest_touches _ _).after .write)

theorem presetTally_touches (p : Port) (args : List Byte) (s : State) :
    Touches [.units, .store, .ports, .notices] s (presetTally p args s).state := by
  have requested : ∀ (r : RecordId) (u : Fin 8) (x : MachineUnit),
      Touches [.units, .store, .ports, .notices] s (request r (s.withUnit u x)) :=
    fun r u x => (request_touches r _).after .write
  unfold presetTally
  split
  · refine unlessLocked_touches ?_
    dsimp only
    split
    · exact .refl
    · dsimp only
      split
      · split
        · exact (serviceTest_touches _ _).after (requested _ _ _)
        · exact requested _ _ _
      · exact requested _ _ _
  · exact .refl

theorem readUnit_touches (args : List Byte) (s : State) : Touches [] s (readUnit args s).state := by
  unfold readUnit
  split <;> exact .refl

theorem setCommitInterval_touches (p : Port) (args : List Byte) (s : State) :
    Touches [.settings] s (setCommitInterval p args s).state := unlessLocked_touches .write

/-! ### The commands of the shift -/

theorem openHandover_touches (p : Port) (s : State) : Touches [.shift, .notices] s (openHandover p s).state := by
  unfold openHandover
  split
  · exact openHandoverBy_touches _ _ _ s
  · exact .refl

theorem releaseShift_touches (p : Port) (s : State) :
    Touches [.shift, .units, .store, .ports, .notices] s (releaseShift p s).state := by
  unfold releaseShift
  split
  · exact .refl
  · exact .refl
  · exact (checkCompletion_touches _).after .write

theorem acceptShift_touches (p : Port) (crew : Nat) (s : State) :
    Touches [.shift, .units, .store, .ports, .notices] s (acceptShift p crew s).state := by
  unfold acceptShift
  split
  · exact .refl
  · split
    · exact .refl
    · exact .refl
    · split
      · exact .refl
      · exact (checkCompletion_touches _).after .write

theorem forceHandover_touches (p : Port) (crew : Nat) (s : State) :
    Touches [.shift, .units, .store, .ports, .notices] s (forceHandover p crew s).state := by
  unfold forceHandover
  split
  · exact .refl
  · split
    · exact .refl
    · exact .refl
    · split
      · exact .refl
      · exact complete_touches _ _ _ s

theorem cancelHandover_touches (s : State) : Touches [.shift] s (cancelHandover s).state := by
  unfold cancelHandover
  split
  · exact .refl
  · exact .write

theorem setSchedule_touches (p : Port) (args : List Byte) (s : State) :
    Touches [.settings, .shift] s (setSchedule p args s).state := by
  unfold setSchedule
  split
  · exact .refl
  · split
    · exact .refl
    · split
      · exact .refl
      · exact unlessLocked_touches .write

theorem setShiftTimes_touches (p : Port) (args : List Byte) (s : State) :
    Touches [.settings, .shift, .notices] s (setShiftTimes p args s).state :=
  unlessLocked_touches ((judgeWindow_touches _).after .write)

theorem readShiftRecord_touches (n : Nat) (s : State) : Touches [] s (readShiftRecord n s).state := by
  unfold readShiftRecord
  split <;> exact .refl

/-! ### The commands of the ports and of the notices -/

theorem lockGroup_touches (p : Port) (args : List Byte) (s : State) : Touches [.locks] s (lockGroup p args s).state := by
  unfold lockGroup
  split
  · exact .refl
  · split
    · exact .refl
    · exact .write

theorem unlockGroup_touches (p : Port) (args : List Byte) (s : State) :
    Touches [.locks] s (unlockGroup p args s).state := by
  unfold unlockGroup
  split
  · exact .refl
  · split
    · exact .refl
    · exact .write

theorem clearNotices_touches (p : Port) (args : List Byte) (s : State) :
    Touches [.notices] s (clearNotices p args s).state := by
  unfold clearNotices
  split
  · exact .refl
  · exact .write

theorem setNotices_touches (p : Port) (args : List Byte) (s : State) :
    Touches [.settings, .notices] s (setNotices p args s).state := by
  unfold setNotices
  dsimp only
  split
  · split
    · exact .write
    · exact unlessLocked_touches .write
  · exact .refl

theorem readNotices_touches (args : List Byte) (s : State) : Touches [] s (readNotices args s).state := by
  unfold readNotices
  split <;> exact .refl

/-! ### Frames -/

/-- What is taken at a rise of select touches its own blocks, and a port (R182, R184). -/
theorem atRise_touches {bs : List Block} {p : Port} {take : State → State} {s : State} (h : ∀ u, Touches bs u (take u))
    (hp : within [.ports] bs = true := by rfl) : Touches bs s (atRise p take s) := by
  have ended : Touches bs s (endTransaction p s) := (endTransaction_touches p s).within hp
  unfold atRise
  split
  · exact .refl
  · dsimp only
    split
    · exact ended
    · split
      · exact Touches.after (.write (bs := [.ports])) ended hp
      · exact fun b hb => (ended b hb).trans (h _ b hb)

theorem fetchFrame_touches (p : Port) (n : Byte) (bits : List Bool) (s : State) :
    Touches [.ports] s (fetchFrame p n bits s) := by
  unfold fetchFrame
  split
  · exact takeFetch_touches p s
  · exact atRise_touches fun u => answerPort_touches _ _ _ u

theorem brokenFrame_touches (p : Port) (bits : List Bool) (s : State) : Touches [.ports] s (brokenFrame p bits s) := by
  unfold brokenFrame
  split
  · exact endTransaction_touches p s
  · exact atRise_touches fun u => answerPort_touches _ _ _ u
  · exact .refl
  · exact .refl

theorem unknownCommand_touches (p : Port) (code : Byte) (args : List Byte) (s : State) :
    Touches [.ports] s (unknownCommand p code args s) := by
  unfold unknownCommand
  split
  · exact .refl
  · exact atRise_touches fun u => answerPort_touches _ _ _ u

theorem saveSettings_touches (p : Port) (args : List Byte) (s : State) :
    Touches [.store, .ports] s (saveSettings p args s) := by
  refine atRise_touches fun u => ?_
  split
  · exact (answerPort_touches _ _ _ u).within
  · split
    · exact (answerPort_touches _ _ _ u).within
    · split
      · exact (answerPort_touches _ _ _ u).within
      · exact beginSave_touches p u

end Sys2Proof.Machine.LineLaws
end

section
/-! SUPPORT. The line's own operations: the registers in step with the receiver, the line-free count in step with the level. -/

namespace Sys2Proof.Machine.LineLaws

open SourceLaws

set_option Elab.async false

/-! ### The two halves of LineInv -/

/-- The send state, the telegram and the capture go with the receiver, and no more bits are read than a telegram has. -/
def RegistersFit (l : TimeLine) : Prop :=
  (l.sendState = .sending ↔ l.receiver = .own) ∧ (l.outgoing.isSome ↔ l.receiver = .own)
    ∧ (l.capture.isSome ↔ (l.receiver = .start ∨ l.receiver = .data ∨ l.receiver = .own)) ∧ l.readBits.length ≤ 56

/-- The line-free count goes with a level of the line. -/
def CountFits (level : Level) (l : TimeLine) : Prop :=
  l.freeCount ≤ Config.lineFree ∧ (level = .low → l.freeCount = 0 ∧ l.highSince = none)
    ∧ (level = .high → l.highSince.isSome)

theorem lineInv_iff_of_working {s : State} (works : working s = true) :
    LineInv s ↔ RegistersFit s.tl ∧ CountFits (lineLevel s) s.tl := by
  constructor
  · rintro ⟨send, outgoing, capture, most, bits, low, high, _⟩
    exact ⟨⟨send, outgoing, capture, bits⟩, most, low, high works⟩
  · rintro ⟨⟨send, outgoing, capture, bits⟩, most, low, high⟩
    exact ⟨send, outgoing, capture, most, bits, low, fun _ => high, fun idle => absurd (works.symm.trans idle) (by simp)⟩

/-- In RETAIN the receiver awaits a high line, and nothing of it moves (R61). -/
theorem lineInv_iff_of_idle {s : State} (idle : working s = false) :
    LineInv s ↔ RegistersFit s.tl ∧ s.tl.receiver = .awaitHigh ∧ s.tl.freeCount = 0 ∧ s.tl.highSince = none := by
  constructor
  · rintro ⟨send, outgoing, capture, _, bits, _, _, rests⟩
    exact ⟨⟨send, outgoing, capture, bits⟩, rests idle⟩
  · rintro ⟨⟨send, outgoing, capture, bits⟩, receiver, count, since⟩
    exact ⟨send, outgoing, capture, by simp [count], bits, fun _ => ⟨count, since⟩,
      fun works => absurd (works.symm.trans idle) (by simp), fun _ => ⟨receiver, count, since⟩⟩

theorem registersFit_of_inv {s : State} (hs : LineInv s) : RegistersFit s.tl := by
  obtain ⟨send, outgoing, capture, _, bits, _⟩ := hs
  exact ⟨send, outgoing, capture, bits⟩

/-- A part whose receiver is not in OWN pulls no line (R45, R51). -/
theorem sendingNow_of_not_own {s : State} (fit : RegistersFit s.tl) (h : s.tl.receiver ≠ .own) : sendingNow s = none := by
  obtain ⟨send, _⟩ := fit
  refine sendingNow_idle s ?_
  cases state : s.tl.sendState with
  | idle => rfl
  | sending => exact absurd (send.1 state) h

theorem lineLevel_of_not_own {s : State} (fit : RegistersFit s.tl) (h : s.tl.receiver ≠ .own) :
    lineLevel s = s.pins.timeLine := lineLevel_of_none s (sendingNow_of_not_own fit h)

/-! ### The count follows the level (R45) -/

theorem working_followLine (was : Level) (s : State) : working (followLine was s) = working s :=
  working_congr ((followLine_touches was s).same .supply)

/-- A count in step with the level before is in step with the level it has followed. -/
theorem lineInv_followLine {was : Level} {s : State} (works : working s = true) (fit : RegistersFit s.tl)
    (count : CountFits was s.tl) : LineInv (followLine was s) := by
  refine (lineInv_iff_of_working ((working_followLine was s).trans works)).2 ⟨?_, ?_⟩
  · rw [followLine_eq]
    exact fit
  · obtain ⟨most, low, high⟩ := count
    rw [lineLevel_followLine, followLine_eq]
    by_cases same : was = lineLevel s
    · simpa [CountFits, same] using And.intro most (And.intro (fun l => low (same.trans l)) (fun l => high (same.trans l)))
    · rw [if_neg same, if_neg same]
      cases level : lineLevel s <;> simp [CountFits]

/-! ### The receiver (R47, R48) -/

/-- The receiver of a working part that is not in OWN passes to another state that is not OWN, with the capture of that state. -/
theorem lineInv_receive {s : State} {l : TimeLine} (hs : LineInv s) (works : working s = true)
    (here : s.tl.receiver ≠ .own) (there : l.receiver ≠ .own)
    (capture : l.capture.isSome ↔ l.receiver = .start ∨ l.receiver = .data) (bits : l.readBits.length ≤ 56)
    (send : l.sendState = s.tl.sendState := by rfl) (outgoing : l.outgoing = s.tl.outgoing := by rfl)
    (count : l.freeCount = s.tl.freeCount := by rfl) (since : l.highSince = s.tl.highSince := by rfl) :
    LineInv { s with tl := l } := by
  obtain ⟨fit, fits⟩ := (lineInv_iff_of_working works).1 hs
  obtain ⟨sends, goesOut, _, _⟩ := id fit
  have fit' : RegistersFit l := by
    refine ⟨?_, ?_, ?_, bits⟩
    · simpa [send, there, here] using sends
    · simpa [outgoing, there, here] using goesOut
    · simpa [there] using capture
  refine (lineInv_iff_of_working (s := { s with tl := l }) works).2 ⟨fit', ?_⟩
  rw [lineLevel_of_not_own (s := { s with tl := l }) fit' there]
  rw [lineLevel_of_not_own fit here] at fits
  simpa only [CountFits, count, since] using fits

theorem settleReceiver_line {s : State} (hs : LineInv s) (works : working s = true) : LineInv (settleReceiver s) := by
  unfold settleReceiver
  split
  next h =>
    obtain ⟨awaits, _⟩ := h
    obtain ⟨_, _, capture, bits⟩ := registersFit_of_inv hs
    exact lineInv_receive hs works (by simp [awaits]) (by simp) (by simpa [awaits] using capture) bits
  next => exact hs

theorem settleStart_line {s : State} (hs : LineInv s) : LineInv (settleStart s) := by
  unfold settleStart
  split
  next h =>
    obtain ⟨read, _⟩ := h
    obtain ⟨_, _, _, bits⟩ := registersFit_of_inv hs
    unfold startBitRead at read
    split at read
    next c started captured =>
      obtain ⟨works, _⟩ := Bool.and_eq_true_iff.1 read
      exact lineInv_receive hs works (by simp [started]) (by simp) (by simp [captured]) bits
    · cases read
  next => exact hs

/-- A start bit read at its middle is that of a working part in START (R47). -/
theorem start_of_brokenStartDue {s : State} (due : brokenStartDue s = true) :
    working s = true ∧ s.tl.receiver = .start := by
  unfold brokenStartDue startBitRead at due
  split at due
  next c started captured =>
    simp only [Bool.and_eq_true] at due
    obtain ⟨⟨works, _⟩, _⟩ := due
    exact ⟨works, started⟩
  · cases due

theorem breakStart_line {s : State} (hs : LineInv s) : LineInv (breakStart s) := by
  unfold breakStart
  split
  next => exact hs
  next due =>
    obtain ⟨works, started⟩ := start_of_brokenStartDue (Bool.eq_true_of_not_eq_false due)
    obtain ⟨_, _, _, bits⟩ := registersFit_of_inv hs
    exact lineInv_receive hs works (by simp [started]) (by simp) (by simp) bits

theorem readBit_line {s : State} (hs : LineInv s) : LineInv (readBit s) := by
  unfold readBit
  split
  next due =>
    have room : s.tl.readBits.length < 56 := by
      unfold bitReadDue at due
      split at due
      · cases due
      · simp only [Bool.and_eq_true, decide_eq_true_eq] at due
        exact due.1
    obtain ⟨send, outgoing, capture, most, _, low, high, idle⟩ := hs
    refine ⟨send, outgoing, capture, most, ?_, low, high, idle⟩
    simpa using room
  next => exact hs

theorem closeReception_line {s : State} (hs : LineInv s) (works : working s = true) (data : s.tl.receiver = .data) :
    LineInv (closeReception s) := lineInv_receive hs works (by simp [data]) (by simp) (by simp) (by simp)

/-! ### The edges of the line (R45, R47) -/

theorem working_settleReceiver (s : State) : working (settleReceiver s) = working s :=
  working_congr ((settleReceiver_touches s).same .supply)

/-- The other parties' level moves in a part that works, and the count follows. -/
theorem lineInv_followPin {s : State} {x : Pins} (hs : LineInv s) (works : working s = true) :
    LineInv (followLine (lineLevel s) { s with pins := x }) := by
  obtain ⟨fit, count⟩ := (lineInv_iff_of_working works).1 hs
  exact lineInv_followLine works fit count

/-- In RETAIN the line moves and the registers do not (R61). -/
theorem lineInv_idlePin {s : State} {x : Pins} (hs : LineInv s) (idle : working s = false) :
    LineInv { s with pins := x } :=
  (lineInv_iff_of_idle (s := { s with pins := x }) idle).2 ((lineInv_iff_of_idle idle).1 hs)

theorem fallLine_line {s : State} (hs : LineInv s) : LineInv (fallLine s) := by
  unfold fallLine
  split
  next => exact hs
  split
  next idle => exact lineInv_idlePin hs idle
  next running =>
    have works : working s = true := Bool.eq_true_of_not_eq_false running
    have settled := settleReceiver_line hs works
    have worksOn : working (settleReceiver s) = true := (working_settleReceiver s).trans works
    generalize settleReceiver s = u at settled worksOn
    have followed : ∀ x, LineInv (followLine (lineLevel u) { u with pins := x }) := fun _ => lineInv_followPin settled worksOn
    have receiver : ∀ x, (followLine (lineLevel u) { u with pins := x }).tl.receiver = u.tl.receiver := fun x => by
      rw [followLine_eq]
    dsimp only
    split
    next starts =>
      exact lineInv_receive (followed _) ((working_followLine _ _).trans worksOn) (by simp [receiver, starts]) (by simp)
        (by simp) (by simp)
    next => exact followed _

theorem raiseLine_line {s : State} (hs : LineInv s) : LineInv (raiseLine s) := by
  unfold raiseLine
  split
  next => exact hs
  dsimp only
  split
  next idle => exact lineInv_idlePin hs idle
  next running =>
    have works : working s = true := Bool.eq_true_of_not_eq_false running
    exact settleReceiver_line (lineInv_followPin hs works) ((working_followLine _ _).trans works)

/-! ### The telegram going out (R50 to R53) -/

/-- A telegram goes out of a working part, with its bits and its capture. -/
theorem sendingNow_eq_some_iff {s : State} {bits : BitVec 56} {c : StartCapture} :
    sendingNow s = some (bits, c)
      ↔ working s = true ∧ s.tl.sendState = .sending ∧ s.tl.outgoing = some bits ∧ s.tl.capture = some c := by
  constructor
  · intro sends
    unfold sendingNow at sends
    split at sends
    next goes =>
      split at sends
      next b d out captured =>
        cases sends
        exact ⟨goes.1, goes.2, out, captured⟩
      · cases sends
    · cases sends
  · rintro ⟨works, state, out, captured⟩
    simp [sendingNow, works, state, out, captured]

theorem since_now (s : State) : since s (now s) = 0 := by
  have low : now s % Config.elapsedPeriod < Config.elapsedPeriod := Nat.mod_lt _ (by decide)
  have whole : now s % Config.elapsedPeriod + (Config.elapsedPeriod - now s % Config.elapsedPeriod)
      = Config.elapsedPeriod := Nat.add_sub_of_le low.le
  rw [since, elapsedBetween, whole, Nat.mod_self]

/-- The start bit of a telegram just begun pulls the line low (R45, R51). -/
theorem lineLevel_beginTelegram {s : State} (works : working s = true) : lineLevel (beginTelegram s) = .low := by
  have begun : sendingNow (beginTelegram s) = some (ownTelegram s,
      { reading := now s, time := s.clk.time, epoch := s.clk.epoch, grade := gradeNow s, contested := false,
        stepped := false }) := by
    have worksOn : working (beginTelegram s) = true := works
    unfold sendingNow
    rw [if_pos ⟨worksOn, rfl⟩]
    rfl
  have startBit : since (beginTelegram s) (now s) = 0 := since_now s
  simp [lineLevel, partPulls, begun, pullsIn, bitNow, startBit]

theorem beginTelegram_line {s : State} (works : working s = true) : LineInv (beginTelegram s) := by
  refine (lineInv_iff_of_working (s := beginTelegram s) works).2 ⟨?_, ?_⟩
  · simp [RegistersFit, beginTelegram]
  · rw [lineLevel_beginTelegram works]
    simp [CountFits, beginTelegram]

theorem boundaryLine_line {s : State} (hs : LineInv s) (works : working s = true) : LineInv (boundaryLine s) := by
  have taken : LineInv (takeOver s) := lineInv_of_view (lineView_takeOver s) hs
  have worksOn : working (takeOver s) = true := by
    unfold takeOver
    split <;> exact works
  unfold boundaryLine decideSend
  split
  · exact taken
  · split
    · exact beginTelegram_line worksOn
    · exact lineInv_of_view rfl taken

/-- After its 57 bit periods a telegram has released the line (R51). -/
theorem lineLevel_of_sentDue {s : State} (due : sentDue s = true) : lineLevel s = s.pins.timeLine := by
  unfold sentDue at due
  split at due
  · cases due
  next bits c sends =>
    simp only [Bool.and_eq_true, decide_eq_true_eq] at due
    have long : 57000 ≤ since s c.reading := due.1
    have past : ¬ since s c.reading / 1000 ≤ 56 := by omega
    have begun : ¬ since s c.reading / 1000 = 0 := by omega
    simp [lineLevel, partPulls, sends, pullsIn, bitNow, Config.bitPeriod, past, begun]

theorem working_of_sentDue {s : State} (due : sentDue s = true) : working s = true := by
  unfold sentDue at due
  split at due
  · cases due
  next bits c sends => exact (sendingNow_eq_some_iff.1 sends).1

theorem completeSend_line {s : State} (hs : LineInv s) : LineInv (completeSend s) := by
  unfold completeSend
  split
  next => exact hs
  next isDue =>
    have due : sentDue s = true := Bool.eq_true_of_not_eq_false isDue
    have works : working s = true := working_of_sentDue due
    obtain ⟨⟨_, _, _, bits⟩, count⟩ := (lineInv_iff_of_working works).1 hs
    rw [lineLevel_of_sentDue due] at count
    refine (lineInv_iff_of_working (by exact works)).2 ⟨⟨by simp, by simp, by simp, bits⟩, ?_⟩
    rw [lineLevel_of_none _ (sendingNow_idle _ rfl)]
    exact count

/-- A telegram given up: the part releases the line, and the receiver goes on or awaits a high line. -/
theorem lineInv_release {s : State} {l : TimeLine} (hs : LineInv s) (works : working s = true) (send : l.sendState = .idle)
    (outgoing : l.outgoing = none) (receiver : l.receiver = .data ∨ l.receiver = .awaitHigh)
    (capture : l.capture.isSome ↔ l.receiver = .data) (bits : l.readBits = s.tl.readBits := by rfl)
    (count : l.freeCount = s.tl.freeCount := by rfl) (since : l.highSince = s.tl.highSince := by rfl) :
    LineInv (followLine (lineLevel s) { s with tl := l }) := by
  obtain ⟨⟨_, _, _, most⟩, fits⟩ := (lineInv_iff_of_working works).1 hs
  refine lineInv_followLine works ?_ (by simpa only [CountFits, count, since] using fits)
  rcases receiver with r | r <;> simp_all [RegistersFit]

/-- A bit read back as another belongs to a telegram going out. -/
theorem sending_of_mismatch {s : State} (h : (mismatch s).isSome) : ∃ bits c, sendingNow s = some (bits, c) := by
  unfold mismatch at h
  split at h
  · cases h
  next bits c sends => exact ⟨bits, c, sends⟩

/-- The part gives way, with the loss counted (R52, R53). -/
theorem giveWay_line {s : State} (counts : LineCounts) (hs : LineInv s) (differs : (mismatch s).isSome) :
    LineInv (giveWay { s with tl := { s.tl with counts := counts } }) := by
  obtain ⟨bits, c, sends⟩ := sending_of_mismatch differs
  obtain ⟨works, _, _, captured⟩ := sendingNow_eq_some_iff.1 sends
  have counted : LineInv { s with tl := { s.tl with counts := counts } } := lineInv_of_view rfl hs
  exact lineInv_of_view (lineView_yieldStandby _)
    (lineInv_release counted works rfl rfl (.inl rfl) (by simp [captured]))

theorem mismatch_of_lossDue {s : State} (due : lossDue s = true) : (mismatch s).isSome := by
  unfold lossDue at due
  split at due
  · cases due
  next found => simp [found]

theorem mismatch_of_clashDue {s : State} (due : clashDue s = true) : (mismatch s).isSome := by
  unfold clashDue at due
  split at due
  · cases due
  next found => simp [found]

theorem loseArbitration_line {s : State} (hs : LineInv s) : LineInv (loseArbitration s) := by
  unfold loseArbitration
  split
  next => exact hs
  next due => exact giveWay_line _ hs (mismatch_of_lossDue (Bool.eq_true_of_not_eq_false due))

theorem clashId_line {s : State} (hs : LineInv s) : LineInv (clashId s) := by
  unfold clashId
  split
  next => exact hs
  next due =>
    refine lineInv_of_touches ?_ (post_touches _ _)
    exact giveWay_line _ hs (mismatch_of_clashDue (Bool.eq_true_of_not_eq_false due))

theorem failSend_line {s : State} (hs : LineInv s) : LineInv (failSend s) := by
  unfold failSend
  split
  next => exact hs
  next due =>
    have works : working s = true := by
      unfold faultCanCome at due
      split at due
      · simp at due
      next sends => exact (sendingNow_eq_some_iff.1 sends).1
    exact lineInv_of_view (lineView_yieldStandby _)
      (lineInv_release hs works rfl rfl (.inr rfl) (by simp))

/-! ### A step at a mark (R34) -/

/-- A step noted in the capture moves no level. -/
theorem lineLevel_noteStep (s : State) : lineLevel (noteStep s) = lineLevel s := by
  cases sends : sendingNow s with
  | some x =>
    obtain ⟨bits, c⟩ := x
    obtain ⟨works, state, out, captured⟩ := sendingNow_eq_some_iff.1 sends
    have noted : sendingNow (noteStep s) = some (bits, { c with stepped := true }) :=
      sendingNow_eq_some_iff.2 ⟨works, state, out, by simp [noteStep, captured]⟩
    simp only [lineLevel, partPulls, sends, noted]
    rfl
  | none =>
    have quiet : sendingNow (noteStep s) = none := by
      cases noted : sendingNow (noteStep s) with
      | none => rfl
      | some x =>
        obtain ⟨works, state, out, captured⟩ := sendingNow_eq_some_iff.1 noted
        obtain ⟨c, captured, _⟩ := Option.map_eq_some_iff.1 captured
        exact absurd (sends.symm.trans (sendingNow_eq_some_iff.2 ⟨works, state, out, captured⟩)) (by simp)
    rw [lineLevel_of_none _ sends, lineLevel_of_none _ quiet]
    rfl

theorem noteStep_line {s : State} (hs : LineInv s) : LineInv (noteStep s) := by
  obtain ⟨send, outgoing, capture, most, bits, low, high, idle⟩ := hs
  refine ⟨send, outgoing, ?_, most, bits, ?_, ?_, idle⟩
  · simpa [noteStep] using capture
  · rw [lineLevel_noteStep]
    exact low
  · rw [lineLevel_noteStep]
    exact high

end Sys2Proof.Machine.LineLaws
end

section
/-! PROOF. Every step keeps the line safe (O6): the marks and telegrams that can reach a station second boundary, the starts and
stops of the part, one oscillator period, and every row. -/

namespace Sys2Proof.Machine.LineLaws

open SourceLaws

set_option Elab.async false

/-! ### A station second boundary (R1, R50) -/

theorem takeBoundary_line {s : State} (hs : LineInv s) : LineInv (takeBoundary s) := by
  unfold takeBoundary
  split
  next => exact hs
  next running =>
    have view : lineView (startPulse (applyDate s)) = lineView s := (lineView_startPulse _).trans (lineView_applyDate s)
    have works : working (startPulse (applyDate s)) = true :=
      (congrArg LineView.works view).trans (Bool.eq_true_of_not_eq_false running)
    exact lineInv_of_touches (boundaryLine_line (lineInv_of_view view hs) works) (checkBoundary_touches _)

theorem stationBoundary_line {s : State} (hs : LineInv s) : LineInv (stationBoundary s) := by
  unfold stationBoundary
  split
  · exact hs
  · exact takeBoundary_line (lineInv_of_view rfl hs)

/-! ### A mark in the Time Base (R10, R12, R34) -/

theorem stepAtMark_line {m : HandedMark} {p : Int} {s : State} (hs : LineInv s) : LineInv (stepAtMark m p s) := by
  unfold stepAtMark
  extract_lets before after crosses src c noted moved source size reported
  have stepped : LineInv noted := by
    refine lineInv_of_view (s := noteStep { s with clk := { c with silence := some (now s) } }) rfl (noteStep_line ?_)
    exact lineInv_of_view rfl hs
  clear_value noted
  have movedView : lineView moved = lineView noted := by
    show lineView (if disciplineState noted.clk = .acquiring then noted else moveTo .tracking noted) = _
    split
    · rfl
    · exact lineView_moveTo _ _
  clear_value moved
  have entered : LineInv reported :=
    lineInv_of_view ((lineView_reportedStep _ _ _ _ _ moved).trans movedView) stepped
  clear_value reported
  split
  · exact takeBoundary_line entered
  · exact entered

theorem processMark_line {m : HandedMark} {s : State} (hs : LineInv s) : LineInv (processMark m s) := by
  have started : LineInv (markStart m s) := lineInv_of_view (lineView_markStart m s) hs
  rw [processMark_eq]
  split
  · split
    · exact stepAtMark_line (lineInv_of_view rfl started)
    · exact lineInv_of_view (lineView_markWithoutStep _ _ _ _ _ _) started
  · exact lineInv_of_view (lineView_markWithoutStep _ _ _ _ _ _) started

theorem handMark_line {f : Nat} {x : Source} {n : Option Nat} {s : State} (hs : LineInv s) :
    LineInv (handMark f x n s) := processMark_line (lineInv_of_view rfl hs)

/-! ### Fibre marks (R30, R32, R33) -/

theorem acceptFibre_line {x : Pattern} {n : Option Nat} {s : State} (hs : LineInv s) : LineInv (acceptFibre x n s) :=
  handMark_line (lineInv_of_view ((lineView_evaluateSource _).trans rfl) hs)

theorem judgeFibre_line {x : Pattern} {s : State} (hs : LineInv s) : LineInv (judgeFibre x s) := by
  unfold judgeFibre
  split
  · exact hs
  · split
    · exact acceptFibre_line hs
    · exact acceptFibre_line hs
    · unfold fibreStray
      split
      · exact acceptFibre_line hs
      · exact lineInv_of_view ((lineView_addFault _).trans rfl) hs

theorem completePattern_line {s : State} (hs : LineInv s) : LineInv (completePattern s) := by
  unfold completePattern
  split
  · exact hs
  · split
    · exact hs
    · exact judgeFibre_line (lineInv_of_view rfl hs)

theorem catchUp_line {s : State} (hs : LineInv s) : LineInv (catchUp s) := by
  have settled : LineInv (settleRecogniser s) := lineInv_of_touches hs (settleRecogniser_touches s)
  unfold catchUp
  dsimp only
  split
  · exact completePattern_line settled
  · split
    · exact lineInv_of_view (lineView_discardPattern _) settled
    · exact settled

theorem standFibre_line {s : State} (hs : LineInv s) : LineInv (standFibre s) := by
  have caught := catchUp_line hs
  unfold standFibre
  split
  · exact hs
  · dsimp only
    split
    · exact caught
    · exact lineInv_of_view ((lineView_phaseEdge _ _ _).trans rfl) caught

theorem fibreEdge_line {c : FibreChange} {s : State} (hs : LineInv s) : LineInv (fibreEdge c s) := by
  unfold fibreEdge
  split
  · unfold moveFibre
    split
    · exact hs
    · split
      · exact lineInv_of_view rfl hs
      · have caught := catchUp_line (standFibre_line hs)
        generalize catchUp (standFibre s) = u at caught
        exact lineInv_of_view rfl caught
  · exact standFibre_line hs

/-! ### Telegrams heard (R37, R48, R49) -/

theorem judgeLine_line {c : StartCapture} {s : State} (hs : LineInv s) : LineInv (judgeLine c s) := by
  have accepted : ∀ n, LineInv (acceptLine c n s) := fun n => handMark_line (lineInv_of_view rfl hs)
  unfold judgeLine
  split
  · exact hs
  · split
    · exact accepted _
    · exact accepted _
    · exact lineInv_of_view rfl hs

theorem peerMark_line {i : BitVec 3} {g : Grade} {c : StartCapture} {s : State} (hs : LineInv s) :
    LineInv (peerMark i g c s) := by
  have heard : ∀ m : MarkQualifier, LineInv (evaluateSource { s with mq := m }) := fun m =>
    lineInv_of_view ((lineView_evaluateSource _).trans rfl) hs
  unfold peerMark
  split
  · exact hs
  · dsimp only
    split
    · exact lineInv_of_view rfl hs
    · split
      · exact judgeLine_line (heard _)
      · exact heard _

theorem takeTelegram_line {t : Telegram} {c : StartCapture} {s : State} (hs : LineInv s) :
    LineInv (takeTelegram t c s) := by
  have sender : LineInv (judgeSender t (recordTelegram t c s)) :=
    lineInv_of_view ((lineView_judgeSender t _).trans rfl) hs
  refine lineInv_of_view ((lineView_yieldToPeer _ _).trans ((lineView_offerLineDate _ _ _).trans
    (lineView_crossCheck _ _ _))) (peerMark_line sender)

theorem receiveTelegram_line {bits : List Bool} {s : State} (hs : LineInv s) : LineInv (receiveTelegram bits s) := by
  unfold receiveTelegram
  split
  · exact hs
  next c ends =>
    have closed : LineInv (closeReception s) := by
      unfold telegramEnd at ends
      split at ends
      next d data captured =>
        split at ends
        next h => exact closeReception_line hs h.1 data
        · cases ends
      · cases ends
    split
    · exact hs
    · split
      · exact lineInv_of_view rfl closed
      · exact takeTelegram_line closed

/-! ### The port commands that reach the clock or the line -/

theorem lineView_setClock (p : Port) (args : List Byte) (s : State) : lineView (setClock p args s).state = lineView s := by
  unfold setClock
  dsimp only
  split
  · rfl
  · unfold unlessLocked
    split <;> rfl

theorem lineView_setDate (p : Port) (args : List Byte) (s : State) : lineView (setDate p args s).state = lineView s := by
  unfold setDate
  dsimp only
  split
  · rfl
  · exact lineView_offerToSlot _ _ _ s

theorem lineView_rearmSource (s : State) : lineView (rearmSource s).state = lineView s :=
  (lineView_evaluateSource _).trans rfl

theorem lineView_setLineMarks (p : Port) (args : List Byte) (s : State) :
    lineView (setLineMarks p args s).state = lineView s := by
  unfold setLineMarks
  dsimp only
  split
  · rfl
  · unfold unlessLocked
    split
    · rfl
    · dsimp only
      split
      · exact (lineView_evaluateSource _).trans rfl
      · rfl

theorem lineView_setLineRole (p : Port) (args : List Byte) (s : State) :
    lineView (setLineRole p args s).state = lineView s := by
  unfold setLineRole
  split
  · rfl
  · unfold unlessLocked
    split
    · rfl
    · dsimp only
      split <;> rfl

theorem lineView_readLine (args : List Byte) (s : State) : lineView (readLine args s).state = lineView s := by
  unfold readLine
  split
  · rfl
  · dsimp only
    split <;> rfl

theorem lineView_atRise {p : Port} {take : State → State} {s : State} (h : ∀ u, lineView (take u) = lineView u) :
    lineView (atRise p take s) = lineView s := by
  unfold atRise
  split
  · rfl
  · dsimp only
    split
    · rfl
    · split
      · rfl
      · exact (h _).trans rfl

/-- A command's frame leaves the line when the command's own block does. -/
theorem carryOut_line {p : Port} {args : List Byte} {good : Bool} {body : State → Reply} {s : State}
    (h : ∀ u, lineView (body u).state = lineView u) (hs : LineInv s) : LineInv (carryOut p args good body s) := by
  refine lineInv_of_view (lineView_atRise fun u => ?_) hs
  split
  · rfl
  · split
    · rfl
    · exact Eq.trans rfl (h u)

/-- A command whose block touches neither the line, the clock, the pins nor the supply. -/
theorem carryOut_leaves_line {bs : List Block} {p : Port} {args : List Byte} {good : Bool} {body : State → Reply} {s : State}
    (h : ∀ u, Touches bs u (body u).state) (hs : LineInv s) (hclk : .clk ∉ bs := by decide) (htl : .tl ∉ bs := by decide)
    (hsup : .supply ∉ bs := by decide) (hpin : .pins ∉ bs := by decide) : LineInv (carryOut p args good body s) :=
  carryOut_line (fun u => lineView_of_touches (h u) hclk htl hsup hpin) hs

/-- A command that only reads. -/
theorem carryOut_reads_line {p : Port} {args : List Byte} {good : Bool} {result : State → Result} {s : State}
    (hs : LineInv s) :
    LineInv (carryOut p args good (fun u => { state := u, status := .done, result := result u }) s) :=
  carryOut_line (fun _ => rfl) hs

/-! ### The supply (R61, R62, R144 to R150) -/

/-- A supply state other than RETAIN is of no concern to a part that works. -/
theorem lineInv_supply {s : State} {x : SupplyMonitor} (hs : LineInv s) (works : working { s with supply := x } = working s) :
    LineInv { s with supply := x } := by
  refine lineInv_of_view ?_ hs
  simp only [lineView, works]
  rfl

theorem restoreRises_line {s : State} (hs : LineInv s) : LineInv (restoreRises s) := by
  unfold restoreRises
  split
  · exact hs
  · dsimp only
    split
    · exact lineInv_of_view rfl hs
    · exact lineInv_of_view rfl hs

theorem restoreFalls_line {s : State} (hs : LineInv s) : LineInv (restoreFalls s) := by
  unfold restoreFalls
  split
  · exact hs
  · exact lineInv_of_view rfl hs

theorem enterWarning_line {s : State} (hs : LineInv s) (normal : s.supply.state = .normal) : LineInv (enterWarning s) := by
  refine lineInv_of_touches (bs := [.store]) (lineInv_supply (x := { s.supply with
    state := .warning, warnings := satSucc top16 s.supply.warnings, restore := none }) hs ?_) .write
  simp [working, normal]

theorem warningFall_line {s : State} (hs : LineInv s) : LineInv (warningFall s) := by
  have moved : LineInv (moveSupply .belowWarning s) := lineInv_of_view rfl hs
  unfold warningFall
  split
  · exact hs
  · dsimp only
    split
    next h => exact lineInv_of_touches (enterWarning_line moved h.2) (startProgram_touches _)
    next => exact lineInv_of_view rfl moved

theorem returnToNormal_line {s : State} (hs : LineInv s) : LineInv (returnToNormal s) := by
  unfold returnToNormal
  split
  · exact hs
  next due =>
    have warned : s.supply.state = .warning := by
      simp only [returnDue, Bool.not_eq_false, Bool.and_eq_true, decide_eq_true_eq] at due
      exact due.1
    refine lineInv_of_touches (bs := [.store])
      (lineInv_supply (x := { s.supply with state := .normal, restore := none }) hs ?_) .write
    simp [working, warned]

/-- A part that stops has the line's registers of a cold start, without the moment of a rise. -/
theorem stopPart_line (s : State) : LineInv (stopPart s) := by
  refine (lineInv_iff_of_idle (s := stopPart s) rfl).2 ⟨?_, rfl, rfl, rfl⟩
  simp [RegistersFit, stopPart, stopPorts, TimeLine.reset]

/-- The line's registers at RETAIN entry, in a part that works no more (R61). -/
theorem retainBlocks_line {s : State} (idle : working s = false) : LineInv (retainBlocks s) := by
  have retained : LineInv (retainLine (retainMarks (retainClock (tearStore s)))) := by
    have supply : working (retainClock (tearStore s)) = false := by
      rw [working_congr ((retainClock_touches (tearStore s)).same .supply)]
      exact idle
    refine (lineInv_iff_of_idle (s := retainLine (retainMarks (retainClock (tearStore s)))) supply).2 ⟨?_, rfl, rfl, rfl⟩
    simp [RegistersFit, retainLine]
  exact lineInv_of_touches retained ((stopPorts_touches _).after ((retainNotices_touches _).after
    ((retainShift_touches _).after ((retainUnits_touches _).after ((retainBursts_touches _).after
      (retainInputs_touches _).within)))) : Touches [.ports, .notices, .shift, .units, .bursts, .inputs] _ _)

theorem enterRetain_line (s : State) : LineInv (enterRetain s) := by
  have idle : working (openGap s) = false := by simp [working, openGap]
  unfold enterRetain
  dsimp only
  split
  · exact stopPart_line _
  · exact retainBlocks_line idle

theorem lowFall_line {s : State} (hs : LineInv s) : LineInv (lowFall s) := by
  have moved : LineInv (moveSupply .belowLow s) := lineInv_of_view rfl hs
  unfold lowFall
  split
  · exact hs
  · dsimp only
    split
    · exact moved
    · split
      · exact enterRetain_line _
      · exact enterRetain_line _
      · exact lineInv_of_view rfl moved

theorem loseCell_line {s : State} (hs : LineInv s) : LineInv (loseCell s) := by
  unfold loseCell
  split
  · exact hs
  · split
    · exact stopPart_line s
    · exact lineInv_of_view rfl hs

/-- The warm start finds the line's registers at rest and begins the count of a high line (R62). -/
theorem warmLine_line {s : State} (works : working s = true) (registers : RegistersFit s.tl)
    (rests : s.tl.receiver = .awaitHigh) : LineInv (warmLine s) := by
  obtain ⟨send, outgoing, capture, bits⟩ := registers
  have fit : RegistersFit (warmLine s).tl :=
    ⟨by simpa [warmLine, rests] using send, by simpa [warmLine, rests] using outgoing,
      by simpa [warmLine, rests] using capture, bits⟩
  refine (lineInv_iff_of_working (s := warmLine s) works).2 ⟨fit, ?_⟩
  have before : lineLevel s = s.pins.timeLine := lineLevel_of_not_own ⟨send, outgoing, capture, bits⟩ (by simp [rests])
  have after : lineLevel (warmLine s) = s.pins.timeLine := lineLevel_of_not_own fit (by simp [warmLine])
  rw [after]
  simp only [CountFits, warmLine, before]
  cases s.pins.timeLine <;> simp

theorem warmStart_line {s : State} (hs : LineInv s) : LineInv (warmStart s) := by
  unfold warmStart
  split
  · exact hs
  next due =>
    dsimp only
    have retained : s.supply.state = .retain ∧ s.supply.stopped = false := by
      simp only [warmDue, restoreReached, powered, Bool.not_eq_false, Bool.and_eq_true, decide_eq_true_eq,
        Bool.not_eq_true'] at due
      exact ⟨due.1, due.2.1⟩
    obtain ⟨state, going⟩ := retained
    have idle : working s = false := by simp [working, state]
    obtain ⟨registers, rests, _⟩ := (lineInv_iff_of_idle idle).1 hs
    have gap : ∀ u, Touches [.log, .bursts, .notices] u (recordGap (startNotices .supplyReturn u)) :=
      fun u => (makeEntry_touches _ _ _).after (startNotices_touches _ u).within
    have logged := gap { s with supply := { s.supply with state := .normal, restore := none } }
    generalize recordGap _ = t at logged
    have works : working t = true := (working_congr (logged.same .supply)).trans (by simp [working, going])
    have marked : Touches [.clk, .mq, .shift, .notices] t (warmMarks (warmClock t)) :=
      (evaluateSource_touches _).after .write
    have line : (warmMarks (warmClock t)).tl = s.tl := Eq.trans (marked.same .tl) (Eq.trans (logged.same .tl) rfl)
    have worksOn : working (warmMarks (warmClock t)) = true := (working_congr (marked.same .supply)).trans works
    have warm : LineInv (warmLine (warmMarks (warmClock t))) :=
      warmLine_line worksOn (by rw [line]; exact registers) (by rw [line]; exact rests)
    have blocks : LineInv (warmBlocks t) := lineInv_of_touches warm
      ((freeLocks_touches _).after ((stopPorts_touches _).after ((repairStore_touches _).after ((warmShift_touches _).after
        ((warmUnits_touches _).after (warmInputs_touches _).within))))
        : Touches [.inputs, .units, .shift, .notices, .store, .ports, .locks] _ _)
    generalize warmBlocks t = w at blocks
    exact lineInv_of_view rfl blocks

/-- A cold start begins the count of a high line at once (R63). -/
theorem coldBlocks_line (s : State) : LineInv (coldBlocks s) := by
  have line : (coldBlocks s).tl = coldLine s := rfl
  refine (lineInv_iff_of_working (s := coldBlocks s) rfl).2 ⟨?_, ?_⟩
  · simp [RegistersFit, line, coldLine, TimeLine.reset]
  · rw [lineLevel_of_none _ (sendingNow_idle _ rfl), line]
    show CountFits s.pins.timeLine _
    cases level : s.pins.timeLine <;> simp [CountFits, coldLine, TimeLine.reset, level]

theorem powerUp_line {s : State} (hs : LineInv s) : LineInv (powerUp s) := by
  unfold powerUp
  split
  · exact coldBlocks_line _
  · exact hs

/-! ### One oscillator period -/

/-- The count of a line that stays high grows to 12 and no further, and that of a low line not at all (R45). -/
theorem growFree_line {s : State} (hs : LineInv s) : LineInv (growFree s) := by
  unfold growFree
  split
  · exact hs
  next r rose =>
    obtain ⟨send, outgoing, capture, most, bits, low, high, idle⟩ := hs
    refine ⟨send, outgoing, capture, ?_, bits, fun l => ?_, high, fun i => ?_⟩
    · show max s.tl.freeCount (min Config.lineFree _) ≤ Config.lineFree
      omega
    · exact absurd (rose.symm.trans (low l).2) (by simp)
    · exact absurd (rose.symm.trans (idle i).2.2) (by simp)

theorem settleStart_touches (s : State) : Touches [.tl] s (settleStart s) := by
  unfold settleStart
  split
  · exact .write
  · exact .refl

theorem growFree_touches (s : State) : Touches [.tl] s (growFree s) := by
  unfold growFree
  split
  · exact .refl
  · exact .write

theorem readBit_touches (s : State) : Touches [.tl] s (readBit s) := by
  unfold readBit
  split
  · exact .write
  · exact .refl

/-- The line's level before the period, and the count in step with it, are followed through the period. -/
theorem settleLines_line {was : Level} {s : State} (fit : RegistersFit s.tl) (count : CountFits was s.tl)
    (works : working s = true) : LineInv (settleLines was s) := by
  have recognised := settleRecogniser_touches s
  have line : (settleRecogniser s).tl = s.tl := recognised.same .tl
  have worksOn : working (settleRecogniser s) = true := (working_congr (recognised.same .supply)).trans works
  have followed : LineInv (followLine was (settleRecogniser s)) :=
    lineInv_followLine worksOn (by rw [line]; exact fit) (by rw [line]; exact count)
  have read : Touches [.tl] (settleRecogniser s)
      (readBit (settleStart (growFree (followLine was (settleRecogniser s))))) :=
    (readBit_touches _).after ((settleStart_touches _).after ((growFree_touches _).after (followLine_touches _ _)))
  unfold settleLines
  rw [if_pos works]
  exact settleReceiver_line (readBit_line (settleStart_line (growFree_line followed)))
    ((working_congr (read.same .supply)).trans worksOn)

theorem tick_line {s : State} (hs : LineInv s) : LineInv (tick s) := by
  unfold tick
  split
  · exact hs
  · dsimp only
    by_cases works : working s = true
    · obtain ⟨fit, count⟩ := (lineInv_iff_of_working works).1 hs
      exact lineInv_of_view rfl (settleLines_line (s := { s with clk := s.clk.period }) fit count works)
    · have idle : working s = false := Bool.eq_false_iff.2 works
      have still : settleLines (lineLevel s) { s with clk := s.clk.period } = { s with clk := s.clk.period } := if_neg works
      rw [still]
      exact (lineInv_iff_of_idle (by exact idle)).2 ((lineInv_iff_of_idle idle).1 hs)

/-! ### Every row -/

theorem lineInv_next {t u : State} (h : LineInv t) (stepped : (Host.Outcome.next t : Outcome) = .next u) : LineInv u := by
  cases stepped
  exact h

theorem exec_line {s t : State} (c : Instr) (hs : LineInv s) (h : exec c s = .next t) : LineInv t := by
  cases c with
  | stationSecondBoundary => exact lineInv_next (stationBoundary_line hs) h
  | secOutPulseEnd => exact lineInv_next (lineInv_of_view (lineView_endPulse s) hs) h
  | elapsedTenth => exact lineInv_next (lineInv_of_view (lineView_takeTenth s) hs) h
  | fibrePhaseEdge change => exact lineInv_next (fibreEdge_line hs) h
  | patternTimeout => exact lineInv_next (lineInv_of_view (lineView_expirePattern s) hs) h
  | patternComplete => exact lineInv_next (completePattern_line hs) h
  | markSilenceExpiry => exact lineInv_next (lineInv_of_view (lineView_expireSilence s) hs) h
  | holdoverGrowth => exact lineInv_next (lineInv_of_view (lineView_growHoldover s) hs) h
  | fibrePresenceExpiry => exact lineInv_next (lineInv_of_view (lineView_expireFibrePresence s) hs) h
  | peerPresenceExpiry => exact lineInv_next (lineInv_of_view (lineView_expirePeerPresence s) hs) h
  | readClock p args => exact lineInv_next (carryOut_reads_line hs) h
  | setClock p args => exact lineInv_next (carryOut_line (lineView_setClock p args) hs) h
  | setDate p args => exact lineInv_next (carryOut_line (lineView_setDate p args) hs) h
  | readSource p args => exact lineInv_next (carryOut_reads_line hs) h
  | rearmSource p args => exact lineInv_next (carryOut_line lineView_rearmSource hs) h
  | setMarkWindow p args => exact lineInv_next (carryOut_leaves_line (setMarkWindow_touches p args) hs) h
  | setLineMarks p args => exact lineInv_next (carryOut_line (lineView_setLineMarks p args) hs) h
  | telegramJudged bits => exact lineInv_next (receiveTelegram_line hs) h
  | brokenStartBit => exact lineInv_next (breakStart_line hs) h
  | telegramSent => exact lineInv_next (completeSend_line hs) h
  | arbitrationLoss => exact lineInv_next (loseArbitration_line hs) h
  | idClash => exact lineInv_next (clashId_line hs) h
  | sendFault => exact lineInv_next (failSend_line hs) h
  | setLineRole p args => exact lineInv_next (carryOut_line (lineView_setLineRole p args) hs) h
  | setLine p args => exact lineInv_next (carryOut_leaves_line (setLine_touches p args) hs) h
  | readLine p args => exact lineInv_next (carryOut_line (lineView_readLine args) hs) h
  | tripLeadingEdge k => exact lineInv_next (lineInv_of_view (lineView_leadingEdge k s) hs) h
  | tripTrailingEdge k => exact lineInv_next (lineInv_of_view (lineView_trailingEdge k s) hs) h
  | assertQualifies k => exact lineInv_next (lineInv_of_touches hs (qualifyAssert_touches k s)) h
  | releaseQualifies k => exact lineInv_next (lineInv_of_touches hs (qualifyRelease_touches k s)) h
  | allowInput p args => exact lineInv_next (carryOut_leaves_line (allowInput_touches args) hs) h
  | setInput p args => exact lineInv_next (carryOut_leaves_line (setInput_touches p args) hs) h
  | setChatterInterval p args => exact lineInv_next (carryOut_leaves_line (setChatterInterval_touches p args) hs) h
  | readInputs p args => exact lineInv_next (carryOut_reads_line hs) h
  | readInput p args => exact lineInv_next (carryOut_leaves_line (readInput_touches args) hs) h
  | readLog p args => exact lineInv_next (carryOut_leaves_line (readLog_touches p (argNumber args 0 1)) hs) h
  | seekLog p args =>
    exact lineInv_next (carryOut_leaves_line (seekLog_touches p (BitVec.ofNat 16 (argNumber args 0 2))) hs) h
  | readLogState p args => exact lineInv_next (carryOut_reads_line hs) h
  | firstOutWindowClose => exact lineInv_next (lineInv_of_touches hs (closeWindow_touches s)) h
  | burstGapExpiry => exact lineInv_next (lineInv_of_touches hs (judgeGap_touches s)) h
  | ackBurst p args =>
    exact lineInv_next (carryOut_leaves_line (ackBurst_touches p (BitVec.ofNat 16 (argNumber args 0 2))) hs) h
  | listBursts p args => exact lineInv_next (carryOut_reads_line hs) h
  | readBurst p args =>
    exact lineInv_next (carryOut_leaves_line (readBurst_touches (BitVec.ofNat 16 (argNumber args 0 2))) hs) h
  | setFilter p args => exact lineInv_next (carryOut_leaves_line (setFilter_touches p args) hs) h
  | setBurstGap p args => exact lineInv_next (carryOut_leaves_line (setBurstGap_touches p args) hs) h
  | readFilters p args => exact lineInv_next (carryOut_reads_line hs) h
  | unitCodeChange u code => exact lineInv_next (lineInv_of_view (lineView_changeCode u code s) hs) h
  | settleExpiry u => exact lineInv_next (lineInv_of_touches hs (expireSettle_touches u s)) h
  | setModeTable p args => exact lineInv_next (carryOut_leaves_line (setModeTable_touches p args) hs) h
  | setUnits p args => exact lineInv_next (carryOut_leaves_line (setUnits_touches p args) hs) h
  | setServiceLimit p args => exact lineInv_next (carryOut_leaves_line (setServiceLimit_touches p args) hs) h
  | presetTally p args => exact lineInv_next (carryOut_leaves_line (presetTally_touches p args) hs) h
  | readUnit p args => exact lineInv_next (carryOut_leaves_line (readUnit_touches args) hs) h
  | readUnits p args => exact lineInv_next (carryOut_reads_line hs) h
  | readModeTable p args => exact lineInv_next (carryOut_reads_line hs) h
  | programEnd verified => exact lineInv_next (lineInv_of_touches hs (endProgram_touches verified s)) h
  | intervalTimerExpiry => exact lineInv_next (lineInv_of_touches hs (expireInterval_touches s)) h
  | hourlyTimerExpiry => exact lineInv_next (lineInv_of_touches hs (expireHourly_touches s)) h
  | setCommitInterval p args => exact lineInv_next (carryOut_leaves_line (setCommitInterval_touches p args) hs) h
  | readStore p args => exact lineInv_next (carryOut_reads_line hs) h
  | warningEntry => exact lineInv_next (warningFall_line hs) h
  | supplyRestoreRise => exact lineInv_next (restoreRises_line hs) h
  | supplyRestoreFall => exact lineInv_next (restoreFalls_line hs) h
  | returnToNormal => exact lineInv_next (returnToNormal_line hs) h
  | retainEntry => exact lineInv_next (lowFall_line hs) h
  | warmStart => exact lineInv_next (warmStart_line hs) h
  | backupCellLost => exact lineInv_next (loseCell_line hs) h
  | coldStart => exact lineInv_next (powerUp_line hs) h
  | handoverWindowExpiry => exact lineInv_next (lineInv_of_touches hs (judgeWindow_touches s)) h
  | bellPulseEnd => exact lineInv_next (lineInv_of_touches hs (endBell_touches s)) h
  | openHandover p args => exact lineInv_next (carryOut_leaves_line (openHandover_touches p) hs) h
  | releaseShift p args => exact lineInv_next (carryOut_leaves_line (releaseShift_touches p) hs) h
  | acceptShift p args => exact lineInv_next (carryOut_leaves_line (acceptShift_touches p (argNumber args 0 1)) hs) h
  | forceHandover p args => exact lineInv_next (carryOut_leaves_line (forceHandover_touches p (argNumber args 0 1)) hs) h
  | cancelHandover p args => exact lineInv_next (carryOut_leaves_line cancelHandover_touches hs) h
  | setSchedule p args => exact lineInv_next (carryOut_leaves_line (setSchedule_touches p args) hs) h
  | setShiftTimes p args => exact lineInv_next (carryOut_leaves_line (setShiftTimes_touches p args) hs) h
  | readShift p args => exact lineInv_next (carryOut_reads_line hs) h
  | readShiftRecord p args => exact lineInv_next (carryOut_leaves_line (readShiftRecord_touches (argNumber args 0 2)) hs) h
  | fetch p lengthByte clocked => exact lineInv_next (lineInv_of_touches hs (fetchFrame_touches p lengthByte _ s)) h
  | brokenFrame p edges bytes => exact lineInv_next (lineInv_of_touches hs (brokenFrame_touches p _ s)) h
  | unknownCommand p code args => exact lineInv_next (lineInv_of_touches hs (unknownCommand_touches p code args s)) h
  | saveSettings p args => exact lineInv_next (lineInv_of_touches hs (saveSettings_touches p args s)) h
  | readPorts p args => exact lineInv_next (carryOut_reads_line hs) h
  | lockGroup p args => exact lineInv_next (carryOut_leaves_line (lockGroup_touches p args) hs) h
  | unlockGroup p args => exact lineInv_next (carryOut_leaves_line (unlockGroup_touches p args) hs) h
  | lineReset => exact lineInv_next (lineInv_of_view (lineView_lineReset s) hs) h
  | resetNRise => exact lineInv_next (lineInv_of_view (t := resetRises s) rfl hs) h
  | clearNotices p args => exact lineInv_next (carryOut_leaves_line (clearNotices_touches p args) hs) h
  | holdoffExpiry p => exact lineInv_next (lineInv_of_touches hs (expireHoldoff_touches p s)) h
  | setNotices p args => exact lineInv_next (carryOut_leaves_line (setNotices_touches p args) hs) h
  | readNotices p args => exact lineInv_next (carryOut_leaves_line (readNotices_touches args) hs) h
  | startEdge => exact lineInv_next (fallLine_line hs) h
  | timeLineRise => exact lineInv_next (raiseLine_line hs) h
  | selectFall p => exact lineInv_next (lineInv_of_touches hs (selectFalls_touches p s)) h

/-- Settles O6: each row keeps the line safe, and so does a period in which no command waits. -/
theorem everyStepKeepsTheLineSafe : Obligations.EveryStepKeepsTheLineSafe := by
  unfold Obligations.EveryStepKeepsTheLineSafe
  intro s t hs stepped
  unfold step at stepped
  split at stepped
  next => exact lineInv_next (tick_line hs) stepped
  next c rest _ =>
    have popped : LineInv { s with pending := rest } := lineInv_of_view rfl hs
    exact exec_line c popped stepped

end Sys2Proof.Machine.LineLaws
end

section
/-! PROOF. The line's settings and role are written (O23); READ LINE, READ LOG and SEEK LOG (O21). -/

namespace Sys2Proof.Machine.LineLaws

set_option Elab.async false

/-! ### Clamped numbers (R189) -/

theorem clampedStatus_outside (lo hi v : Nat) : clampedStatus (outside lo hi v) = rangeStatus lo hi v := by
  by_cases within : lo ≤ v ∧ v ≤ hi
  · have inside : ¬ (v < lo ∨ hi < v) := by omega
    simp [clampedStatus, outside, rangeStatus, within, inside]
  · have beyond : v < lo ∨ hi < v := by omega
    simp [clampedStatus, outside, rangeStatus, within, beyond]

/-- DONE for two numbers that both lie in range. -/
theorem clampedStatus_outside_or (lo hi v lo' hi' v' : Nat) :
    clampedStatus (outside lo hi v || outside lo' hi' v')
      = if (lo ≤ v ∧ v ≤ hi) ∧ lo' ≤ v' ∧ v' ≤ hi' then .done else .doneClamped := by
  by_cases within : (lo ≤ v ∧ v ≤ hi) ∧ lo' ≤ v' ∧ v' ≤ hi'
  · have inside : ¬ ((v < lo ∨ hi < v) ∨ (v' < lo' ∨ hi' < v')) := by omega
    simp [clampedStatus, outside, within, inside]
  · have beyond : (v < lo ∨ hi < v) ∨ (v' < lo' ∨ hi' < v') := by omega
    simp [clampedStatus, outside, within, beyond]

/-! ### SET LINE and SET LINE ROLE (R56, R57) -/

/-- A role other than LISTEN is given as asked; LISTEN only to a part that has heard another sender (R56). -/
theorem setLineRole_eq {p : Port} {args : List Byte} {s : State} {role : Role} (coded : roleOf (argNumber args 0 1) = some role) :
    setLineRole p args s = unlessLocked p .line
      (fun s =>
        if role = .listen ∧ heardRecently s = false then { state := giveRole .standby s, status := .doneClamped }
        else { state := giveRole role s, status := .done }) s := by
  simp only [setLineRole, coded]

theorem heardRecently_iff (s : State) :
    heardRecently s = true ↔ ∃ r, s.tl.lastOther = some r ∧ since s r ≤ s.settings.line.takeover * 10000000 := by
  unfold heardRecently
  split
  next silent => simp [silent]
  next r heard =>
    simp only [heard, Option.some.injEq, exists_eq_left', decide_eq_true_eq]
    exact Iff.rfl

/-- SET LINE ROLE at a ready port: the role that the part is given, and the status (R56, R188, R194). -/
theorem exec_setLineRole {p : Port} {args : List Byte} {s : State} {asked given : Role} {x : Status} (ready : Ready p s)
    (length : args.length = 1) (coded : roleOf (argNumber args 0 1) = some asked)
    (gives : (asked = .listen ∧ heardRecently s = false ∧ given = .standby ∧ x = .doneClamped)
      ∨ ((asked ≠ .listen ∨ heardRecently s = true) ∧ given = asked ∧ x = .done)) :
    exec (.setLineRole p args) s = .next (ofGroup p .line x s (giveRole given s)) := by
  have heard : heardRecently (endTransaction p s) = heardRecently s := rfl
  refine congrArg Host.Outcome.next
    (carryOut_ofGroup ready (by omega) (by simp [fits, length]) (setLineRole_eq coded) ?_ rfl)
  rcases gives with ⟨listen, unheard, rfl, rfl⟩ | ⟨granted, rfl, rfl⟩
  · exact (if_pos ⟨listen, heard.trans unheard⟩).trans rfl
  · have allowed : ¬ (given = .listen ∧ heardRecently (endTransaction p s) = false) := by
      rintro ⟨listen, unheard⟩
      rcases granted with other | yes
      · exact other listen
      · exact absurd (yes.symm.trans (heard.symm.trans unheard)) (by simp)
    exact (if_neg allowed).trans rfl

/-- The settings after SET LINE, with the numbers brought into range (R57). -/
def lineSettingsGiven (id k limit : Nat) (s : State) : State :=
  { s with settings := { s.settings with line := { s.settings.line with
      ownId := BitVec.ofNat 3 id, takeover := clampNat 2 15 k, crossLimit := clampNat 10 10000 limit } } }

theorem setLine_eq {p : Port} {args : List Byte} {s : State} (known : argNumber args 0 1 ≤ 7) :
    setLine p args s = unlessLocked p .line
      (fun s =>
        { state := lineSettingsGiven (argNumber args 0 1) (argNumber args 1 1) (argNumber args 2 2) s
          status := clampedStatus (outside 2 15 (argNumber args 1 1) || outside 10 10000 (argNumber args 2 2)) }) s :=
  if_neg (by omega : ¬ 7 < argNumber args 0 1)

theorem exec_setLine {p : Port} {args : List Byte} {s : State} (ready : Ready p s) (length : args.length = 4)
    (known : argNumber args 0 1 ≤ 7) :
    exec (.setLine p args) s = .next (ofGroup p .line
      (if (2 ≤ argNumber args 1 1 ∧ argNumber args 1 1 ≤ 15) ∧ 10 ≤ argNumber args 2 2 ∧ argNumber args 2 2 ≤ 10000
        then .done else .doneClamped) s
      (lineSettingsGiven (argNumber args 0 1) (argNumber args 1 1) (argNumber args 2 2) s)) := by
  refine congrArg Host.Outcome.next (carryOut_ofGroup ready (by omega) (by simp [fits, length]) (setLine_eq known) ?_ rfl)
  rw [clampedStatus_outside_or]
  rfl

/-- Settles O23, by the id's range and the code of the role. -/
theorem lineSettingsAreWritten : Obligations.LineSettingsAreWritten := by
  unfold Obligations.LineSettingsAreWritten
  intro p args s ready
  refine ⟨fun length => ?_, fun length => ⟨fun code => ?_, fun code => ?_, fun code heard => ?_, fun code unheard => ?_,
    fun code => ?_⟩⟩
  · dsimp only
    split
    next known => exact exec_setLine ready length known
    next unknown =>
      exact congrArg Host.Outcome.next (carryOut_refused ready (by omega) (by simp [fits, length])
        (by simp only [setLine, if_pos (by omega : 7 < argNumber args 0 1)]))
  · exact exec_setLineRole ready length (by rw [code]; rfl) (.inr ⟨.inl (by simp), rfl, rfl⟩)
  · exact exec_setLineRole ready length (by rw [code]; rfl) (.inr ⟨.inl (by simp), rfl, rfl⟩)
  · exact exec_setLineRole ready length (by rw [code]; rfl) (.inr ⟨.inr ((heardRecently_iff s).2 heard), rfl, rfl⟩)
  · exact exec_setLineRole ready length (by rw [code]; rfl)
      (.inl ⟨rfl, Bool.eq_false_iff.2 fun yes => unheard ((heardRecently_iff s).1 yes), rfl, rfl⟩)
  · have unnamed : roleOf (argNumber args 0 1) = none := by
      unfold roleOf
      split <;> first | omega | rfl
    exact congrArg Host.Outcome.next (carryOut_refused ready (by omega) (by simp [fits, length])
      (by simp only [setLineRole, unnamed]))

/-! ### READ LINE (R60) -/

/-- What READ LINE samples, in the terms of the claim. -/
theorem lineSample_eq (s : State) :
    lineSample s =
      { role := s.settings.line.role, phase := s.tl.phase, ownId := s.settings.line.ownId,
        takeover := s.settings.line.takeover, crossLimit := s.settings.line.crossLimit, sendState := s.tl.sendState,
        receiver := s.tl.receiver, lineFree := decide (s.tl.freeCount = 12 ∧ lineLevel s = .high),
        lastValid := s.tl.lastValid.map fun x => { telegram := x, age := min 65535 (since s x.reading / 10000) },
        lastOther := s.tl.lastOther.map fun r => min 65535 (since s r / 10000),
        silence := min 65535 (since s s.tl.silence / 10000000),
        lastDisagree := s.tl.lastDisagree.map fun r => min 65535 (since s r / 10000000), counts := s.tl.counts } := by
  have free : lineIsFree s = decide (s.tl.freeCount = 12 ∧ lineLevel s = .high) :=
    (Bool.decide_and _ _).symm
  simp only [lineSample, free]
  rfl

theorem readLine_sample {args : List Byte} {s : State} {clear : Bool} (coded : yesNoOf (argNumber args 0 1) = some clear) :
    readLine args s =
      { state := if clear then { s with tl := { s.tl with counts := .zero } } else s
        status := .done, result := .line (lineSample s) } := by
  simp only [readLine, coded]

/-! ### The log (R84, R87, R88) -/

theorem toNat_ofNat_of_ring {n k : Nat} (most : n ≤ Config.ringSize) (h : k ≤ n) : (BitVec.ofNat 16 k).toNat = k := by
  have ring : Config.ringSize = 1024 := rfl
  rw [BitVec.toNat_ofNat]
  omega

/-- The oldest entry's number lies the ring's length before the next one (R84, R86). -/
theorem oldestSeq_eq {s : State} (hs : LogInv s) :
    s.log.oldestSeq = s.log.nextSeq - BitVec.ofNat 16 s.log.ring.length := by
  obtain ⟨_, numbers, _⟩ := hs
  unfold TripLog.oldestSeq
  split
  next empty => simp [empty]
  next e rest ring =>
    rw [ring] at numbers ⊢
    simp only [List.map_cons, List.length_cons, List.range_succ_eq_map, List.cons.injEq] at numbers
    simpa using numbers.1

/-- A number that follows another by `d` lies `d` past it. -/
theorem add_sub_same (a d : BitVec 16) : a + d - a = d := by bv_omega

/-- A number is held exactly when it lies less than the ring's length past the oldest (R84). -/
theorem held_iff {s : State} (hs : LogInv s) (x : BitVec 16) :
    (∃ e ∈ s.log.ring, e.seq = x) ↔ (x - s.log.oldestSeq).toNat < s.log.ring.length := by
  rw [oldestSeq_eq hs]
  obtain ⟨most, numbers, _⟩ := hs
  have members : (∃ e ∈ s.log.ring, e.seq = x) ↔ x ∈ s.log.ring.map fun e => e.seq := by simp
  rw [members, numbers]
  simp only [List.mem_map, List.mem_range]
  constructor
  · rintro ⟨k, below, rfl⟩
    rw [add_sub_same, toNat_ofNat_of_ring most below.le]
    exact below
  · intro below
    refine ⟨_, below, ?_⟩
    rw [BitVec.ofNat_toNat, BitVec.setWidth_eq]
    bv_omega

/-- Where SEEK LOG sets the cursor, in the terms of the claim (R88). -/
theorem seekTarget_held {s : State} {x : BitVec 16} (hs : LogInv s)
    (h : (∃ e ∈ s.log.ring, e.seq = x) ∨ x = s.log.nextSeq) : seekTarget s.log x = (x, .done) := by
  unfold seekTarget
  rw [held_iff hs] at h
  rcases h with held | newest
  · rw [if_pos held]
  · by_cases held : (x - s.log.oldestSeq).toNat < s.log.ring.length
    · rw [if_pos held]
    · rw [if_neg held, if_pos newest]

theorem seekTarget_other {s : State} {x : BitVec 16} (hs : LogInv s)
    (h : ¬ ((∃ e ∈ s.log.ring, e.seq = x) ∨ x = s.log.nextSeq)) :
    seekTarget s.log x
      = if (x - s.log.nextSeq).toNat < 32768 then (s.log.nextSeq, .doneClamped) else (s.log.oldestSeq, .doneClamped) := by
  rw [held_iff hs, not_or] at h
  obtain ⟨unheld, older⟩ := h
  rw [seekTarget, if_neg unheld, if_neg older]

theorem exec_seekLog {p : Port} {args : List Byte} {s : State} {cursor : BitVec 16} {status : Status} (ready : Ready p s)
    (length : args.length = 2) (target : seekTarget s.log (BitVec.ofNat 16 (argNumber args 0 2)) = (cursor, status)) :
    exec (.seekLog p args) s = .next (answered p status
      (.seek { cursor := cursor, oldest := s.log.ring.head?.map fun e => e.seq, nextSeq := s.log.nextSeq }) s
      { s with log := { s.log with cursors := s.log.cursors.set p cursor } }) := by
  have here : seekTarget (endTransaction p s).log (BitVec.ofNat 16 (argNumber args 0 2)) = (cursor, status) := target
  refine congrArg Host.Outcome.next (carryOut_ready ready (by omega) (by simp [fits, length]) ?_ rfl)
  simp only [seekLog, here]
  rfl

/-- READ LOG from the entry `k` places past the oldest (R87). -/
theorem exec_readLog {p : Port} {args : List Byte} {k : Nat} {s : State} (ready : Ready p s) (length : args.length = 1)
    (most : s.log.ring.length ≤ Config.ringSize) (place : s.log.cursors.get p = s.log.oldestSeq + BitVec.ofNat 16 k)
    (within : k ≤ s.log.ring.length) :
    let entries := (s.log.ring.drop k).take (clampNat 1 8 (argNumber args 0 1))
    let cursor := s.log.cursors.get p + BitVec.ofNat 16 entries.length
    exec (.readLog p args) s = .next
      (answered p (rangeStatus 1 8 (argNumber args 0 1))
        (.log { missed := s.log.missed.get p, moreFollows := decide (cursor ≠ s.log.nextSeq), entries := entries }) s
        { s with log := { s.log with cursors := s.log.cursors.set p cursor, missed := s.log.missed.set p 0 } }) := by
  have skip : ((endTransaction p s).log.cursors.get p - (endTransaction p s).log.oldestSeq).toNat = k := by
    show (s.log.cursors.get p - s.log.oldestSeq).toNat = k
    rw [place, add_sub_same, toNat_ofNat_of_ring most within]
  refine congrArg Host.Outcome.next (carryOut_ready ready (by omega) (by simp [fits, length]) ?_ rfl)
  simp only [readLog, skip, clampedStatus_outside]
  rfl

/-- Settles O21, by the clear argument of READ LINE, the place of the cursor, and where the number sought lies. -/
theorem lineAndLogReads : Obligations.LineAndLogReads := by
  unfold Obligations.LineAndLogReads
  refine ⟨fun p args s ready length => ?_, fun p args k s ready length hs place within => ?_,
    fun p args s ready length hs => ?_⟩
  · have fit : fits args 1 = true := by simp [fits, length]
    dsimp only
    rw [← lineSample_eq]
    refine ⟨fun keep => ?_, fun clear => ?_, fun neither => ?_⟩
    · exact congrArg Host.Outcome.next
        (carryOut_ready ready (by omega) fit (readLine_sample (clear := false) (by rw [keep]; rfl)) rfl)
    · exact congrArg Host.Outcome.next
        (carryOut_ready ready (by omega) fit (readLine_sample (clear := true) (by rw [clear]; rfl)) rfl)
    · have unnamed : yesNoOf (argNumber args 0 1) = none := by
        unfold yesNoOf
        split <;> first | omega | rfl
      exact congrArg Host.Outcome.next (carryOut_refused ready (by omega) fit (by simp only [readLine, unnamed]))
  · obtain ⟨most, _⟩ := id hs
    exact exec_readLog ready length most (by rw [oldestSeq_eq hs, place]) within
  · dsimp only
    split
    next held => exact exec_seekLog ready length (seekTarget_held hs held)
    next other =>
      have target := seekTarget_other hs other
      split
      next past => exact exec_seekLog ready length (target.trans (if_pos past))
      next before =>
        rw [← oldestSeq_eq hs]
        exact exec_seekLog ready length (target.trans (if_neg before))

end Sys2Proof.Machine.LineLaws
end

section
/-! PROOF. The ends of a telegram going out (O39): when each comes, and what the part's release of the line leaves. -/

namespace Sys2Proof.Machine.LineLaws

set_option Elab.async false

/-! ### A notice leaves the line (R201) -/

/-- `s` with the line's registers `l`. -/
def putLine (l : TimeLine) (s : State) : State := { s with tl := l }

theorem postTo_putLine (k : NoticeKind) (p : Port) (l : TimeLine) (s : State) :
    postTo k p (putLine l s) = putLine l (postTo k p s) := by
  have works : working (putLine l s) = working s := rfl
  have enabled : (putLine l s).settings = s.settings := rfl
  unfold postTo
  rw [works, enabled]
  split
  · rfl
  · split <;> rfl

theorem post_putLine (k : NoticeKind) (l : TimeLine) (s : State) : post k (putLine l s) = putLine l (post k s) := by
  show postTo k .c (postTo k .b (postTo k .a (putLine l s))) = putLine l (postTo k .c (postTo k .b (postTo k .a s)))
  rw [postTo_putLine, postTo_putLine, postTo_putLine]

theorem postTo_writes (k : NoticeKind) (p : Port) (s : State) : ∃ n, postTo k p s = { s with notices := n } := by
  unfold postTo
  split
  · exact ⟨_, rfl⟩
  · split <;> exact ⟨_, rfl⟩

theorem post_eq (k : NoticeKind) (s : State) : post k s = { s with notices := (post k s).notices } := by
  obtain ⟨na, a⟩ := postTo_writes k .a s
  obtain ⟨nb, b⟩ := postTo_writes k .b (postTo k .a s)
  obtain ⟨nc, c⟩ := postTo_writes k .c (postTo k .b (postTo k .a s))
  have posted : post k s = { s with notices := nc } := by
    show postTo k .c (postTo k .b (postTo k .a s)) = _
    rw [c, b, a]
  rw [posted]

/-- A notice posted beside a change of the line's registers. -/
theorem post_line (k : NoticeKind) (s : State) (l : TimeLine) :
    post k { s with tl := l } = { s with tl := l, notices := (post k s).notices } := by
  show post k (putLine l s) = _
  rw [post_putLine, post_eq]
  rfl

/-! ### When the ends of a telegram come (R51 to R53) -/

/-- The bit just read is a 0 where the telegram drove a 1. -/
def BitDiffers (bits : BitVec 56) (s : State) : Prop :=
  s.tl.readBits.getLast? = some false ∧ bits.getMsbD (s.tl.readBits.length - 1) = true

theorem pullsIn_iff (bits : BitVec 56) (k : Nat) :
    pullsIn bits k = true ↔ k = 0 ∨ (k ≤ 56 ∧ bits.getMsbD (k - 1) = false) := by
  simp [pullsIn]

theorem partPulls_of_sending {s : State} {bits : BitVec 56} {c : StartCapture} (sends : sendingNow s = some (bits, c)) :
    partPulls s = pullsIn bits (since s c.reading / 1000) := by
  simp only [partPulls, sends]
  rfl

section
variable {s : State} {bits : BitVec 56} {c : StartCapture} (sends : sendingNow s = some (bits, c))
include sends

theorem mismatch_of_differs (differs : BitDiffers bits s) : mismatch s = some s.tl.readBits.length := by
  simp only [mismatch, sends]
  exact if_pos differs

theorem mismatch_of_agrees (agrees : ¬ BitDiffers bits s) : mismatch s = none := by
  simp only [mismatch, sends]
  exact if_neg agrees

theorem lossDue_iff : lossDue s = true ↔ BitDiffers bits s ∧ s.tl.readBits.length ≤ 8 := by
  by_cases differs : BitDiffers bits s
  · simp [lossDue, mismatch_of_differs sends differs, differs]
  · simp [lossDue, mismatch_of_agrees sends differs, differs]

theorem clashDue_iff : clashDue s = true ↔ BitDiffers bits s ∧ 8 < s.tl.readBits.length := by
  by_cases differs : BitDiffers bits s
  · simp [clashDue, mismatch_of_differs sends differs, differs]
  · simp [clashDue, mismatch_of_agrees sends differs, differs]

theorem sentDue_iff : sentDue s = true ↔ 57000 ≤ since s c.reading ∧ ¬ BitDiffers bits s := by
  by_cases differs : BitDiffers bits s
  · simp [sentDue, sends, mismatch_of_differs sends differs, differs]
  · simp only [sentDue, sends, mismatch_of_agrees sends differs, differs, Bool.and_eq_true, decide_eq_true_eq,
      Option.isNone_none, not_false_eq_true, and_true]
    exact Iff.rfl

theorem faultCanCome_iff : faultCanCome s = true ↔ partPulls s = true ∧ 500 ≤ since s c.reading % 1000 := by
  simp only [faultCanCome, partPulls, sends, Bool.and_eq_true, decide_eq_true_eq]
  exact Iff.rfl

end

/-! ### What is left when the part releases the line (R45, R52, R53, R55) -/

theorem yieldStandby_eq (s : State) :
    yieldStandby s = { s with tl := { s.tl with
      phase := if s.settings.line.role = .standby then .waiting else s.tl.phase } } := by
  unfold yieldStandby
  split <;> rfl

/-- The count of a line that rises with the part's release begins at 0; another stands. -/
theorem followLine_release {s : State} {l : TimeLine} (idle : l.sendState = .idle) :
    followLine (lineLevel s) { s with tl := l } = { s with tl := { l with
      freeCount := if partPulls s = true ∧ s.pins.timeLine = .high then 0 else l.freeCount
      highSince := if partPulls s = true ∧ s.pins.timeLine = .high then some (now s) else l.highSince } } := by
  have level : lineLevel { s with tl := l } = s.pins.timeLine := lineLevel_of_none _ (sendingNow_idle _ idle)
  have reading : now { s with tl := l } = now s := rfl
  rw [followLine_eq, level, reading]
  cases pulls : partPulls s <;> cases others : s.pins.timeLine <;> simp [lineLevel, pulls, others]

/-- The part goes on receiving a telegram that it has given up, the loss counted. -/
theorem giveWay_eq {s : State} {c : StartCapture} (counts : LineCounts) (captured : s.tl.capture = some c) :
    giveWay { s with tl := { s.tl with counts := counts } } = { s with tl := { s.tl with
      sendState := .idle, receiver := .data, outgoing := none, capture := some { c with contested := true }, counts := counts
      freeCount := if partPulls s = true ∧ s.pins.timeLine = .high then 0 else s.tl.freeCount
      highSince := if partPulls s = true ∧ s.pins.timeLine = .high then some (now s) else s.tl.highSince
      phase := if s.settings.line.role = .standby then .waiting else s.tl.phase } } := by
  have released := followLine_release (s := { s with tl := { s.tl with counts := counts } }) (l := { s.tl with
    sendState := .idle, receiver := .data, outgoing := none, counts := counts
    capture := s.tl.capture.map fun c => { c with contested := true } }) rfl
  have same : partPulls { s with tl := { s.tl with counts := counts } } = partPulls s := rfl
  rw [same] at released
  rw [giveWay, released, yieldStandby_eq, captured]
  rfl

theorem failSend_eq {s : State} (due : faultCanCome s = true) :
    failSend s = { s with tl := { s.tl with
      sendState := .idle, receiver := .awaitHigh, capture := none, outgoing := none,
      counts := { s.tl.counts with sendFaults := satSucc top16 s.tl.counts.sendFaults }
      freeCount := if partPulls s = true ∧ s.pins.timeLine = .high then 0 else s.tl.freeCount
      highSince := if partPulls s = true ∧ s.pins.timeLine = .high then some (now s) else s.tl.highSince
      phase := if s.settings.line.role = .standby then .waiting else s.tl.phase } } := by
  rw [failSend, if_neg (by simp [due]), followLine_release rfl, yieldStandby_eq]

/-- Settles O39, by the condition of each end and what the release leaves. -/
theorem outgoingTelegramsEnd : Obligations.OutgoingTelegramsEnd := by
  unfold Obligations.OutgoingTelegramsEnd
  intro bits c s works state out captured
  have sends : sendingNow s = some (bits, c) := sendingNow_eq_some_iff.2 ⟨works, state, out, captured⟩
  have pulls := pullsIn_iff bits (since s c.reading / 1000)
  rw [← partPulls_of_sending sends] at pulls
  have sent := sentDue_iff sends
  have lost := lossDue_iff sends
  have clashed := clashDue_iff sends
  have fault := faultCanCome_iff sends
  dsimp only
  simp only [← pulls]
  refine ⟨fun long agrees => ?_, fun early => ?_, fun differs head => ?_, fun other => ?_, fun differs rest => ?_,
    fun other => ?_, fun mid => ?_, fun other => ?_⟩
  · exact congrArg Host.Outcome.next (if_neg (by simp [sent.2 ⟨long, agrees⟩]))
  · refine congrArg Host.Outcome.next (if_pos (Bool.eq_false_iff.2 fun due => ?_))
    obtain ⟨long, agrees⟩ := sent.1 due
    rcases early with short | differs
    · omega
    · exact agrees differs
  · exact congrArg Host.Outcome.next ((if_neg (by simp [lost.2 ⟨differs, head⟩])).trans (giveWay_eq _ captured))
  · refine congrArg Host.Outcome.next (if_pos (Bool.eq_false_iff.2 fun due => ?_))
    obtain ⟨differs, head⟩ := lost.1 due
    rcases other with agrees | past
    · exact agrees differs
    · omega
  · refine congrArg Host.Outcome.next ((if_neg (by simp [clashed.2 ⟨differs, rest⟩])).trans ?_)
    rw [giveWay_eq _ captured, post_line]
    rfl
  · refine congrArg Host.Outcome.next (if_pos (Bool.eq_false_iff.2 fun due => ?_))
    obtain ⟨differs, rest⟩ := clashed.1 due
    rcases other with agrees | head
    · exact agrees differs
    · omega
  · exact congrArg Host.Outcome.next (failSend_eq (fault.2 mid))
  · exact congrArg Host.Outcome.next (if_pos (Bool.eq_false_iff.2 fun due => other (fault.1 due)))

end Sys2Proof.Machine.LineLaws
end

section
/-! PROOF. The line's level, its edges and start bits, and what a period alone makes of the line (O36): one equation for each
operation of the receiving side, then the clauses of the statement. -/

namespace Sys2Proof.Machine.LineLaws

set_option Elab.async false

/-! ### The level (R45, R46, R51) -/

theorem partPulls_iff (s : State) :
    partPulls s = true ↔ working s = true ∧ s.tl.sendState = .sending ∧ ∃ bits c, s.tl.outgoing = some bits
      ∧ s.tl.capture = some c ∧ (since s c.reading / 1000 = 0
        ∨ (since s c.reading / 1000 ≤ 56 ∧ bits.getMsbD (since s c.reading / 1000 - 1) = false)) := by
  constructor
  · intro pulls
    cases sends : sendingNow s with
    | none => simp [partPulls, sends] at pulls
    | some x =>
      obtain ⟨bits, c⟩ := x
      obtain ⟨works, state, out, captured⟩ := sendingNow_eq_some_iff.1 sends
      rw [partPulls_of_sending sends, pullsIn_iff] at pulls
      exact ⟨works, state, bits, c, out, captured, pulls⟩
  · rintro ⟨works, state, bits, c, out, captured, pulls⟩
    rw [partPulls_of_sending (sendingNow_eq_some_iff.2 ⟨works, state, out, captured⟩), pullsIn_iff]
    exact pulls

theorem lineLevel_eq_low_iff (s : State) : lineLevel s = .low ↔ s.pins.timeLine = .low ∨ partPulls s = true := by
  cases pulls : partPulls s <;> simp [lineLevel, pulls]

/-! ### The receiver by itself (R47) -/

theorem settleReceiver_eq (s : State) :
    settleReceiver s = { s with tl := { s.tl with
      receiver := if s.tl.receiver = .awaitHigh ∧ lineLevel s = .high then .idle else s.tl.receiver } } := by
  unfold settleReceiver
  split <;> rfl

theorem settleReceiver_idle {s : State} (h : s.tl.receiver ≠ .awaitHigh) : settleReceiver s = s := by
  rw [settleReceiver, if_neg (by simp [h])]

/-! ### START_EDGE and TIME_LINE_RISE (R45, R47) -/

/-- The other parties' level of TIME_LINE. -/
def withOthers (l : Level) (s : State) : State := { s with pins := { s.pins with timeLine := l } }

theorem followLine_falls (s : State) :
    followLine .high (withOthers .low s)
      = { withOthers .low s with tl := { s.tl with freeCount := 0, highSince := none } } := by
  have level : lineLevel (withOthers .low s) = .low := lineLevel_of_low _ rfl
  rw [followLine_eq, level]
  rfl

/-- The fall of a high line in a part that works, its receiver settled. -/
theorem fallLine_eq {s : State} (works : working s = true) (others : s.pins.timeLine = .high) :
    fallLine s =
      if (settleReceiver s).tl.receiver = .idle then
        { followLine (lineLevel s) (withOthers .low (settleReceiver s)) with tl :=
          { (followLine (lineLevel s) (withOthers .low (settleReceiver s))).tl with
            receiver := .start, capture := some (captureNow s), readBits := [] } }
      else followLine (lineLevel s) (withOthers .low (settleReceiver s)) := by
  have level : lineLevel (settleReceiver s) = lineLevel s := by
    rw [settleReceiver_eq]
    rfl
  have capture : captureNow (settleReceiver s) = captureNow s := by
    rw [settleReceiver_eq]
    rfl
  rw [← level, ← capture, fallLine, if_neg (by simp [others]), if_neg (by simp [works])]
  rfl

theorem fallLine_starts {s : State} (works : working s = true) (others : s.pins.timeLine = .high)
    (high : lineLevel s = .high) (awake : s.tl.receiver = .idle ∨ s.tl.receiver = .awaitHigh) :
    fallLine s = { withOthers .low s with tl := { s.tl with
      freeCount := 0, highSince := none, receiver := .start, readBits := [], capture := some (captureNow s) } } := by
  have idle : settleReceiver s = { s with tl := { s.tl with receiver := .idle } } := by
    rw [settleReceiver_eq]
    rcases awake with r | r <;> simp [r, high]
  rw [fallLine_eq works others, idle, if_pos rfl, high, followLine_falls]
  rfl

theorem fallLine_heard {s : State} (works : working s = true) (others : s.pins.timeLine = .high)
    (high : lineLevel s = .high) (busy : s.tl.receiver ≠ .idle) (awake : s.tl.receiver ≠ .awaitHigh) :
    fallLine s = { withOthers .low s with tl := { s.tl with freeCount := 0, highSince := none } } := by
  rw [fallLine_eq works others, settleReceiver_idle awake, if_neg busy, high, followLine_falls]

theorem fallLine_under {s : State} (works : working s = true) (others : s.pins.timeLine = .high)
    (low : lineLevel s = .low) (own : s.tl.receiver = .own) : fallLine s = withOthers .low s := by
  have level : lineLevel (withOthers .low s) = .low := lineLevel_of_low _ rfl
  have same := followLine_same (withOthers .low s)
  rw [level] at same
  rw [fallLine_eq works others, settleReceiver_idle (by simp [own]), if_neg (by simp [own]), low, same]

/-- The other parties release a line in a part that works. -/
theorem raiseLine_eq {s : State} (works : working s = true) (others : s.pins.timeLine = .low) :
    raiseLine s = settleReceiver (followLine .low (withOthers .high s)) := by
  rw [raiseLine, if_neg (by simp [others])]
  dsimp only
  rw [lineLevel_of_low s others]
  exact if_neg (by simp [works])

theorem raiseLine_rises {s : State} (works : working s = true) (others : s.pins.timeLine = .low)
    (high : lineLevel (withOthers .high s) = .high) :
    raiseLine s = { withOthers .high s with tl := { s.tl with
      freeCount := 0, highSince := some (now s),
      receiver := if s.tl.receiver = .awaitHigh then .idle else s.tl.receiver } } := by
  have level : lineLevel (followLine .low (withOthers .high s)) = .high := (lineLevel_followLine _ _).trans high
  rw [raiseLine_eq works others, settleReceiver_eq, level, followLine_eq, high]
  simp only [and_true]
  rfl

theorem raiseLine_under {s : State} (works : working s = true) (others : s.pins.timeLine = .low)
    (low : lineLevel (withOthers .high s) = .low) : raiseLine s = withOthers .high s := by
  have same := followLine_same (withOthers .high s)
  rw [low] at same
  rw [raiseLine_eq works others, same, settleReceiver_eq, low]
  simp

/-! ### The start bit (R47) -/

theorem startBitRead_of_start {s : State} {c : StartCapture} (works : working s = true) (start : s.tl.receiver = .start)
    (captured : s.tl.capture = some c) : startBitRead s = decide (500 ≤ since s c.reading) := by
  simp only [startBitRead, start, captured, works, Bool.true_and]
  rfl

theorem startBitRead_of_ne {s : State} (other : s.tl.receiver ≠ .start) : startBitRead s = false := by
  unfold startBitRead
  split
  next start _ => exact absurd start other
  next => rfl

theorem brokenStartDue_iff {s : State} {c : StartCapture} (works : working s = true) (start : s.tl.receiver = .start)
    (captured : s.tl.capture = some c) :
    brokenStartDue s = true ↔ 500 ≤ since s c.reading ∧ lineLevel s = .high := by
  simp only [brokenStartDue, startBitRead_of_start works start captured, Bool.and_eq_true, decide_eq_true_eq]

/-! ### A period (R45, R47, R48, R51) -/

/-- The line-free count of a line that has followed its level, grown by time. -/
def grownCount (s : State) : Nat :=
  match s.tl.highSince with
  | none => s.tl.freeCount
  | some r => max s.tl.freeCount (min 12 (since s r / 1000))

theorem growFree_eq (s : State) : growFree s = { s with tl := { s.tl with freeCount := grownCount s } } := by
  unfold growFree grownCount
  cases s.tl.highSince <;> rfl

/-- The receiver once a start bit has read low. -/
def startedReceiver (s : State) : Receiver :=
  if startBitRead s = true ∧ lineLevel s = .low then .data else s.tl.receiver

theorem settleStart_eq (s : State) : settleStart s = { s with tl := { s.tl with receiver := startedReceiver s } } := by
  unfold settleStart startedReceiver
  split <;> rfl

/-- The bits read, once the middle of the next has come. -/
def bitsRead (s : State) : List Bool :=
  if bitReadDue s then s.tl.readBits ++ [decide (lineLevel s = .high)] else s.tl.readBits

theorem readBit_eq (s : State) : readBit s = { s with tl := { s.tl with readBits := bitsRead s } } := by
  unfold readBit bitsRead
  split <;> rfl

theorem bitReadDue_iff {s : State} {c : StartCapture} (reads : s.tl.receiver = .data ∨ s.tl.receiver = .own)
    (captured : s.tl.capture = some c) :
    bitReadDue s = true
      ↔ s.tl.readBits.length + 1 ≤ 56 ∧ (s.tl.readBits.length + 1) * 1000 + 500 ≤ since s c.reading := by
  have telegram : readingNow s = some c := by
    rcases reads with r | r <;> simp [readingNow, r, captured]
  simp only [bitReadDue, telegram, Bool.and_eq_true, decide_eq_true_eq]
  exact Iff.rfl

theorem bitsRead_eq {s : State} {c : StartCapture} (reads : s.tl.receiver = .data ∨ s.tl.receiver = .own)
    (captured : s.tl.capture = some c) :
    bitsRead s =
      if s.tl.readBits.length + 1 ≤ 56 ∧ (s.tl.readBits.length + 1) * 1000 + 500 ≤ since s c.reading then
        s.tl.readBits ++ [decide (lineLevel s = .high)]
      else s.tl.readBits := by
  simp only [bitsRead, bitReadDue_iff reads captured]

/-- The line once its level has been followed through a period. -/
def followedLine (s : State) : State := followLine (lineLevel s) (settleRecogniser { s with clk := s.clk.period })

/-- The line after a period: its level followed and counted, the start bit and the next bit read, AWAIT_HIGH ended. -/
def periodLine (s : State) : State :=
  { followedLine s with tl := { (followedLine s).tl with
      freeCount := grownCount (followedLine s)
      readBits := bitsRead { followedLine s with tl := { (followedLine s).tl with
        receiver := startedReceiver (followedLine s) } }
      receiver := if startedReceiver (followedLine s) = .awaitHigh ∧ lineLevel (followedLine s) = .high then .idle
        else startedReceiver (followedLine s) } }

theorem settleLines_eq {s : State} (works : working s = true) :
    settleLines (lineLevel s) { s with clk := s.clk.period } = periodLine s := by
  have worksOn : working { s with clk := s.clk.period } = true := works
  rw [settleLines, if_pos worksOn, growFree_eq, settleStart_eq, readBit_eq, settleReceiver_eq]
  rfl

/-- A working part's step on an empty queue leaves the line as the period does. -/
theorem step_period {s : State} (empty : s.pending = []) (works : working s = true) :
    ∃ waiting drawn, step s = .next { periodLine s with pending := waiting, draws := drawn } := by
  have going : ¬ s.supply.stopped = true := by
    intro stopped
    simp [working, stopped] at works
  refine ⟨(periodLine s).pending ++ dueEvents (periodLine s),
    (periodLine s).draws + (if programMustEnd (periodLine s) then 1 else 0), ?_⟩
  rw [← settleLines_eq works]
  simp only [step, empty, tick, if_neg going]

theorem working_followedLine (s : State) : working (followedLine s) = working s :=
  working_congr (((followLine_touches _ _).after (settleRecogniser_touches { s with clk := s.clk.period }).within
    : Touches [.tl, .mq] { s with clk := s.clk.period } _).same .supply)

/-- The registers of a line whose level was followed: the count and the moment of the rise alone have moved. -/
theorem followedLine_tl (s : State) :
    (followedLine s).tl = { s.tl with
      freeCount := if lineLevel s = lineLevel (followedLine s) then s.tl.freeCount else 0
      highSince := if lineLevel s = lineLevel (followedLine s) then s.tl.highSince
        else if lineLevel (followedLine s) = .high then some (now (followedLine s)) else none } := by
  have line : (settleRecogniser { s with clk := s.clk.period }).tl = s.tl := (settleRecogniser_touches _).same .tl
  unfold followedLine
  rw [lineLevel_followLine, followLine_eq, line]
  rfl

theorem followedLine_receiver (s : State) : (followedLine s).tl.receiver = s.tl.receiver := by rw [followedLine_tl]

theorem followedLine_capture (s : State) : (followedLine s).tl.capture = s.tl.capture := by rw [followedLine_tl]

theorem followedLine_readBits (s : State) : (followedLine s).tl.readBits = s.tl.readBits := by rw [followedLine_tl]

/-- A line that rose in the period has its count begun at 0 (R45). -/
theorem periodLine_rises {s : State} (was : lineLevel s = .low) (rises : lineLevel (followedLine s) = .high) :
    (periodLine s).tl.freeCount = 0 ∧ (periodLine s).tl.highSince = some (now (followedLine s)) := by
  have since : (followedLine s).tl.highSince = some (now (followedLine s)) := by simp [followedLine_tl, was, rises]
  have count : (followedLine s).tl.freeCount = 0 := by simp [followedLine_tl, was, rises]
  refine ⟨?_, since⟩
  show grownCount (followedLine s) = 0
  simp [grownCount, since, count, since_now]

/-- The count of a line that stays high grows with the time since its rise (R45). -/
theorem periodLine_staysHigh {s : State} {r : Reading} (was : lineLevel s = .high)
    (stays : lineLevel (followedLine s) = .high) (rose : s.tl.highSince = some r) :
    (periodLine s).tl.highSince = some r
      ∧ (periodLine s).tl.freeCount = max s.tl.freeCount (min 12 (since (followedLine s) r / 1000)) := by
  have since : (followedLine s).tl.highSince = some r := by simp [followedLine_tl, was, stays, rose]
  have count : (followedLine s).tl.freeCount = s.tl.freeCount := by simp [followedLine_tl, was, stays]
  refine ⟨since, ?_⟩
  show grownCount (followedLine s) = _
  simp only [grownCount, since, count]

theorem startedReceiver_of_ne {s : State} (other : s.tl.receiver ≠ .start) : startedReceiver s = s.tl.receiver := by
  simp [startedReceiver, startBitRead_of_ne other]

theorem periodLine_receiver (s : State) :
    (periodLine s).tl.receiver
      = if startedReceiver (followedLine s) = .awaitHigh ∧ lineLevel (followedLine s) = .high then .idle
        else startedReceiver (followedLine s) := rfl

/-- A start bit that has read low at its middle is followed by the data (R47). -/
theorem periodLine_start {s : State} {c : StartCapture} (works : working s = true) (start : s.tl.receiver = .start)
    (captured : s.tl.capture = some c) :
    (periodLine s).tl.receiver
      = if 500 ≤ since (followedLine s) c.reading ∧ lineLevel (followedLine s) = .low then .data else .start := by
  have started : startedReceiver (followedLine s)
      = if 500 ≤ since (followedLine s) c.reading ∧ lineLevel (followedLine s) = .low then .data else .start := by
    rw [startedReceiver, startBitRead_of_start ((working_followedLine s).trans works)
      ((followedLine_receiver s).trans start) ((followedLine_capture s).trans captured), followedLine_receiver, start]
    simp only [decide_eq_true_eq]
  have listens : startedReceiver (followedLine s) ≠ .awaitHigh := by
    rw [started]
    split <;> simp
  rw [periodLine_receiver, if_neg (by simp [listens]), started]

/-- AWAIT_HIGH ends with a high line (R47). -/
theorem periodLine_awaitHigh {s : State} (awaits : s.tl.receiver = .awaitHigh) :
    (periodLine s).tl.receiver = if lineLevel (followedLine s) = .high then .idle else .awaitHigh := by
  have started : startedReceiver (followedLine s) = .awaitHigh :=
    (startedReceiver_of_ne (by simp [followedLine_receiver, awaits])).trans ((followedLine_receiver s).trans awaits)
  rw [periodLine_receiver, started]
  simp only [true_and]

/-- Each bit of a telegram on the line is its level at the middle of the bit's period (R45, R48, R51). -/
theorem periodLine_reads {s : State} {c : StartCapture} (reads : s.tl.receiver = .data ∨ s.tl.receiver = .own)
    (captured : s.tl.capture = some c) :
    (periodLine s).tl.receiver = s.tl.receiver
      ∧ (periodLine s).tl.readBits =
        if s.tl.readBits.length + 1 ≤ 56 ∧ (s.tl.readBits.length + 1) * 1000 + 500 ≤ since (followedLine s) c.reading
        then s.tl.readBits ++ [decide (lineLevel (followedLine s) = .high)] else s.tl.readBits := by
  have goesOn : (followedLine s).tl.receiver ≠ .start := by
    rw [followedLine_receiver]
    rcases reads with r | r <;> simp [r]
  have started : startedReceiver (followedLine s) = s.tl.receiver :=
    (startedReceiver_of_ne goesOn).trans (followedLine_receiver s)
  constructor
  · rw [periodLine_receiver, started, if_neg]
    rcases reads with r | r <;> simp [r]
  · rw [← followedLine_readBits s]
    exact bitsRead_eq (s := { followedLine s with tl := { (followedLine s).tl with
      receiver := startedReceiver (followedLine s) } }) (by simpa only [started] using reads)
      ((followedLine_capture s).trans captured)

/-! ### The statement -/

/-- Settles O36, by the line's equations: the level, its edges, the start bit at its middle, and a period alone. -/
theorem lineEdgesAndStartBits : Obligations.LineEdgesAndStartBits := by
  unfold Obligations.LineEdgesAndStartBits
  refine ⟨fun s => ?_, fun s works => ⟨fun others => ⟨fun high awake => ?_, fun high busy awake => ?_, fun low own => ?_⟩,
    fun others => ⟨?_, fun high => ?_, fun low => ?_⟩⟩, fun c s works start captured => ⟨fun middle high => ?_, fun other => ?_⟩,
    fun s empty works hs => ?_⟩
  · rw [lineLevel_eq_low_iff, partPulls_iff]
  · exact congrArg _ (fallLine_starts works others high awake)
  · exact congrArg _ (fallLine_heard works others high busy awake)
  · exact congrArg _ (fallLine_under works others low own)
  · exact congrArg Host.Outcome.next (if_pos others)
  · exact congrArg _ (raiseLine_rises works others high)
  · exact congrArg _ (raiseLine_under works others low)
  · exact congrArg Host.Outcome.next (if_neg (by simp [(brokenStartDue_iff works start captured).2 ⟨middle, high⟩]))
  · refine congrArg Host.Outcome.next (if_pos (Bool.eq_false_iff.2 fun due => ?_))
    obtain ⟨middle, high⟩ := (brokenStartDue_iff works start captured).1 due
    rcases other with early | low
    · omega
    · exact absurd (low.symm.trans high) (by simp)
  · obtain ⟨waiting, drawn, stepped⟩ := step_period empty works
    have kept : LineInv { periodLine s with pending := waiting, draws := drawn } :=
      everyStepKeepsTheLineSafe s _ hs stepped
    obtain ⟨_, _, _, _, _, low, _⟩ := kept
    exact ⟨_, stepped, low, fun was rises => periodLine_rises was rises,
      fun r was stays rose => periodLine_staysHigh was stays rose,
      fun c start captured => periodLine_start works start captured,
      fun awaits => periodLine_awaitHigh awaits, fun c reads captured => periodLine_reads reads captured⟩

end Sys2Proof.Machine.LineLaws
end

section
/-! PROOF. A telegram that the part sends is judged valid, with the fields it sent (O38): a number's bits sliced, then the seven
bytes of a telegram as one number. -/

namespace Sys2Proof.Machine.LineLaws

set_option Elab.async false

/-! ### Bits of a number, most significant first (R211) -/

theorem bitsOf_succ (w n : Nat) : bitsOf (w + 1) n = bitsOf w (n / 2) ++ [n.testBit 0] := by
  have shifted : ∀ k ∈ List.range w, n.testBit (w + 1 - 1 - k) = (n / 2).testBit (w - 1 - k) := by
    intro k hk
    have below : k < w := List.mem_range.1 hk
    rw [← Nat.testBit_succ]
    congr 1
    omega
  simp only [bitsOf, List.range_succ, List.map_append, List.map_singleton, List.map_congr_left shifted]
  simp

theorem numberOfBits_append (bits : List Bool) (b : Bool) : numberOfBits (bits ++ [b]) = 2 * numberOfBits bits + b.toNat := by
  simp [numberOfBits]

/-- The number that a number's low bits spell. -/
theorem numberOfBits_bitsOf (w n : Nat) : numberOfBits (bitsOf w n) = n % 2 ^ w := by
  induction w generalizing n with
  | zero => simp [bitsOf, numberOfBits, Nat.mod_one]
  | succ w ih =>
    have low : (n.testBit 0).toNat = n % 2 := by
      rw [Nat.testBit_zero]
      rcases Nat.mod_two_eq_zero_or_one n with h | h <;> simp [h]
    rw [bitsOf_succ, numberOfBits_append, ih, low, Nat.pow_succ, Nat.mul_comm (2 ^ w) 2, Nat.mod_mul]
    omega

theorem drop_bitsOf {w i : Nat} (n : Nat) : (bitsOf w n).drop i = bitsOf (w - i) n := by
  refine List.ext_getElem (by simp) fun k hk _ => ?_
  simp only [bitsOf, List.getElem_drop, List.getElem_map, List.getElem_range]
  congr 1
  omega

theorem take_bitsOf {w k : Nat} (n : Nat) (h : k ≤ w) : (bitsOf w n).take k = bitsOf k (n / 2 ^ (w - k)) := by
  refine List.ext_getElem (by simp [h]) fun j hj _ => ?_
  have below : j < k := by
    simp only [List.length_take, bitsOf_length] at hj
    omega
  simp only [bitsOf, List.getElem_take, List.getElem_map, List.getElem_range, Nat.testBit_div_two_pow]
  congr 1
  omega

/-- The field of `k` bits from bit `i` on. -/
theorem field_bitsOf {w i k : Nat} (n : Nat) (h : i + k ≤ w) :
    numberOfBits (((bitsOf w n).drop i).take k) = n / 2 ^ (w - i - k) % 2 ^ k := by
  rw [drop_bitsOf, take_bitsOf n (by omega), numberOfBits_bitsOf]

/-! ### A telegram's bits (R46) -/

theorem bitList_ofNat (n : Nat) : bitList (BitVec.ofNat 56 n) = bitsOf 56 n := by
  refine List.map_congr_left fun k hk => ?_
  have below : k < 56 := List.mem_range.1 hk
  have index : 56 - 1 - k < 56 := by omega
  simp only [BitVec.getMsbD, BitVec.getLsbD_ofNat, below, index, decide_true, Bool.true_and]

theorem bytesOfBits_bitsOf (n : Nat) :
    bytesOfBits (bitsOf 56 n) = [n / 2 ^ 48 % 256, n / 2 ^ 40 % 256, n / 2 ^ 32 % 256, n / 2 ^ 24 % 256, n / 2 ^ 16 % 256,
      n / 2 ^ 8 % 256, n % 256] := by
  have byte : ∀ k ∈ List.range 7, numberOfBits (((bitsOf 56 n).drop (8 * k)).take 8) = n / 2 ^ (56 - 8 * k - 8) % 2 ^ 8 := by
    intro k hk
    have below : k < 7 := List.mem_range.1 hk
    exact field_bitsOf n (by omega)
  rw [bytesOfBits, List.map_congr_left byte]
  simp [List.range_succ]

/-- 56 bits with a grade, a sum of 0 and a second of the day are a valid telegram. -/
theorem judgeTelegram_bitsOf {n : Nat} {g : Grade} (grade : gradeOf (n / 2 ^ 50 % 8) = some g)
    (sum : (bytesOfBits (bitsOf 56 n)).sum % 256 = 0) (second : n / 2 ^ 8 % 2 ^ 24 < Config.day) :
    judgeTelegram (bitsOf 56 n) = some
      { id := BitVec.ofNat 3 (n / 2 ^ 53 % 8), grade := g, epochBits := BitVec.ofNat 2 (n / 2 ^ 48 % 4)
        day := BitVec.ofNat 16 (n / 2 ^ 32 % 2 ^ 16), second := n / 2 ^ 8 % 2 ^ 24 } := by
  have head : numberOfBits ((bitsOf 56 n).take 3) = n / 2 ^ 53 % 8 := field_bitsOf (i := 0) n (by omega)
  have field := fun i k (h : i + k ≤ 56) => field_bitsOf (w := 56) (i := i) (k := k) n h
  unfold judgeTelegram secondOfBits
  rw [field 3 3 (by omega), field 24 24 (by omega), field 6 2 (by omega), field 8 16 (by omega), head]
  simp only [Nat.reduceSub, Nat.reducePow] at grade second ⊢
  simp only [grade, sum, second, bitsOf_length, and_self, if_true]

/-! ### The bytes sent (R46) -/

theorem numberOf_seven (a b c d e f g : Byte) :
    numberOf [a, b, c, d, e, f, g] = a.toNat * 2 ^ 48 + b.toNat * 2 ^ 40 + c.toNat * 2 ^ 32 + d.toNat * 2 ^ 24
      + e.toNat * 2 ^ 16 + f.toNat * 2 ^ 8 + g.toNat := by
  simp only [numberOf, List.foldl_cons, List.foldl_nil]
  omega

/-- Seven bytes as one number: each is read off it again. -/
theorem bytesOfBits_seven (a b c d e f g : Byte) :
    bytesOfBits (bitsOf 56 (numberOf [a, b, c, d, e, f, g]))
      = [a.toNat, b.toNat, c.toNat, d.toNat, e.toNat, f.toNat, g.toNat] := by
  rw [bytesOfBits_bitsOf, numberOf_seven]
  simp only [List.cons.injEq, and_true]
  refine ⟨?_, ?_, ?_, ?_, ?_, ?_, ?_⟩ <;> omega

/-- The fields of a telegram that its bytes hold: id, grade, epoch, day and second. -/
theorem fields_seven (a b c d e f g : Byte) :
    let n := numberOf [a, b, c, d, e, f, g]
    n / 2 ^ 53 % 8 = a.toNat / 32 ∧ n / 2 ^ 50 % 8 = a.toNat / 4 % 8 ∧ n / 2 ^ 48 % 4 = a.toNat % 4
      ∧ n / 2 ^ 32 % 2 ^ 16 = b.toNat * 256 + c.toNat
      ∧ n / 2 ^ 8 % 2 ^ 24 = d.toNat * 65536 + e.toNat * 256 + f.toNat := by
  dsimp only
  rw [numberOf_seven]
  refine ⟨?_, ?_, ?_, ?_, ?_⟩ <;> omega

theorem rank_bounds (g : Grade) : 1 ≤ g.rank ∧ g.rank ≤ 5 := by cases g <;> decide

theorem gradeOf_rank (g : Grade) : gradeOf g.rank = some g := by cases g <;> rfl

theorem toNat_telegramHead (id : BitVec 3) (g : Grade) (epoch : BitVec 8) :
    (telegramHead id g epoch).toNat = id.toNat * 32 + g.rank * 4 + epoch.toNat % 4 := by
  have rank := rank_bounds g
  rw [telegramHead, BitVec.toNat_ofNat]
  omega

/-- The check byte brings the sum of the seven bytes to 0 (R46). -/
theorem sum_checkByte (a b c d e f : Byte) :
    (a.toNat + b.toNat + c.toNat + d.toNat + e.toNat + f.toNat + (checkByte [a, b, c, d, e, f]).toNat) % 256 = 0 := by
  simp only [checkByte, List.foldl_cons, List.foldl_nil]
  bv_omega

/-- Six bytes and their check byte are a valid telegram when byte 0 has a grade and bytes 3 to 5 a second of the day. -/
theorem judgeTelegram_checked {a b c d e f : Byte} {g : Grade} (grade : gradeOf (a.toNat / 4 % 8) = some g)
    (second : d.toNat * 65536 + e.toNat * 256 + f.toNat < Config.day) :
    judgeTelegram (bitList (BitVec.ofNat 56 (numberOf [a, b, c, d, e, f, checkByte [a, b, c, d, e, f]]))) = some
      { id := BitVec.ofNat 3 (a.toNat / 32), grade := g, epochBits := BitVec.ofNat 2 (a.toNat % 4)
        day := BitVec.ofNat 16 (b.toNat * 256 + c.toNat), second := d.toNat * 65536 + e.toNat * 256 + f.toNat } := by
  obtain ⟨ids, grades, epochs, days, seconds⟩ := fields_seven a b c d e f (checkByte [a, b, c, d, e, f])
  have sum := sum_checkByte a b c d e f
  rw [bitList_ofNat, judgeTelegram_bitsOf (by rw [grades]; exact grade) ?_ (by rw [seconds]; exact second),
    ids, epochs, days, seconds]
  rw [bytesOfBits_seven]
  simpa only [List.sum_cons, List.sum_nil, Nat.add_zero, Nat.add_assoc] using sum

/-- The bytes sent, the check byte last. -/
theorem telegramBytes_eq (id : BitVec 3) (g : Grade) (epoch : BitVec 8) (day : BitVec 16) (second : Nat) :
    ∃ a b c d e f, telegramBytes id g epoch day second = [a, b, c, d, e, f, checkByte [a, b, c, d, e, f]]
      ∧ a = telegramHead id g epoch ∧ b = BitVec.ofNat 8 (day.toNat / 256) ∧ c = BitVec.ofNat 8 day.toNat
      ∧ d = BitVec.ofNat 8 (second / 65536) ∧ e = BitVec.ofNat 8 (second / 256) ∧ f = BitVec.ofNat 8 second := by
  refine ⟨_, _, _, _, _, _, ?_, rfl, rfl, rfl, rfl, rfl, rfl⟩
  simp [telegramBytes, bytesOf, List.range_succ]

theorem toNat_bytes_day (day : BitVec 16) :
    (BitVec.ofNat 8 (day.toNat / 256)).toNat * 256 + (BitVec.ofNat 8 day.toNat).toNat = day.toNat := by
  simp only [BitVec.toNat_ofNat]
  omega

theorem toNat_bytes_second {second : Nat} (named : second < 86400) :
    (BitVec.ofNat 8 (second / 65536)).toNat * 65536 + (BitVec.ofNat 8 (second / 256)).toNat * 256
      + (BitVec.ofNat 8 second).toNat = second := by
  simp only [BitVec.toNat_ofNat]
  omega

/-- Settles O38: the telegram's number is its seven bytes side by side, and each field of it a slice. -/
theorem aTelegramSentIsAValidTelegram : Obligations.ATelegramSentIsAValidTelegram := by
  unfold Obligations.ATelegramSentIsAValidTelegram
  intro id g epoch day second named
  obtain ⟨a, b, c, d, e, f, bytes, head, dayHigh, dayLow, high, middle, low⟩ := telegramBytes_eq id g epoch day second
  have byte0 : a.toNat = id.toNat * 32 + g.rank * 4 + epoch.toNat % 4 := by rw [head, toNat_telegramHead]
  have days : b.toNat * 256 + c.toNat = day.toNat := by rw [dayHigh, dayLow, toNat_bytes_day]
  have seconds : d.toNat * 65536 + e.toNat * 256 + f.toNat = second := by rw [high, middle, low, toNat_bytes_second named]
  obtain ⟨_, least⟩ := rank_bounds g
  have ids : a.toNat / 32 = id.toNat := by omega
  have grades : a.toNat / 4 % 8 = g.rank := by omega
  have epochs : BitVec.ofNat 2 (a.toNat % 4) = epoch.setWidth 2 := by
    apply BitVec.eq_of_toNat_eq
    rw [BitVec.toNat_ofNat, BitVec.toNat_setWidth]
    omega
  rw [telegramBits, bytes, judgeTelegram_checked (by rw [grades, gradeOf_rank]) (by rw [seconds]; exact named),
    ids, days, seconds, epochs, BitVec.ofNat_toNat, BitVec.ofNat_toNat, BitVec.setWidth_eq, BitVec.setWidth_eq]

end Sys2Proof.Machine.LineLaws
end

section
/-! SUPPORT. The Trip Input Unit: what InputsInv reads of one input, when each input state fits it, and one equation for each of the
unit's operations. -/

namespace Sys2Proof.Machine.InputLaws

open SourceLaws LineLaws

set_option Elab.async false

/-! ### The lines and their levels (R65) -/

theorem getLsbD_setBit {w : Nat} (x : BitVec w) (i j : Nat) (b : Bool) (hj : j < w) :
    (setBit x i b).getLsbD j = if j = i then b else x.getLsbD j := by
  have one : (BitVec.ofNat w (2 ^ i)).getLsbD j = decide (j = i) := by
    rw [BitVec.getLsbD_ofNat, Nat.testBit_two_pow]
    simp [hj, @eq_comm _ i j]
  unfold setBit
  cases b
  · rw [if_neg (by decide), BitVec.getLsbD_and, BitVec.getLsbD_not, one]
    by_cases same : j = i <;> simp [same, hj]
  · rw [if_pos rfl, BitVec.getLsbD_or, one]
    by_cases same : j = i <;> simp [same]

@[simp] theorem activeUnder_activeUnder (x : InputSetting) (b : Bool) : activeUnder x (activeUnder x b) = b := by
  cases h : x.activeLow <;> simp [activeUnder, h]

theorem tripHigh_moveTripLine (s : State) (i j : Fin 16) (b : Bool) :
    tripHigh (moveTripLine s i b) j = if j = i then activeUnder (s.settings.inputs.inputs.get i) b else tripHigh s j := by
  simp only [tripHigh, moveTripLine, getLsbD_setBit _ _ _ _ j.isLt, Fin.ext_iff]

/-- A line moved to the active level of its input is active, and no other input sees it. -/
@[simp] theorem inputActive_moveTripLine_same (s : State) (i : Fin 16) (b : Bool) :
    inputActive (moveTripLine s i b) i = b := by
  have high : tripHigh (moveTripLine s i b) i = activeUnder (s.settings.inputs.inputs.get i) b := by
    simp [tripHigh_moveTripLine]
  rw [inputActive, high]
  exact activeUnder_activeUnder _ b

@[simp] theorem inputActive_moveTripLine_other (s : State) (i j : Fin 16) (b : Bool) (h : j ≠ i) :
    inputActive (moveTripLine s i b) j = inputActive s j := by
  rw [inputActive, tripHigh_moveTripLine, if_neg h]
  rfl

/-! ### One input in step (R65, R66, R71, R74) -/

/-- What InputSafe says of an input, of its setting's enabling, of its level and of a part that works or not. -/
def InputFits (x : TripInput) (enabled active works : Bool) : Prop :=
  (x.capture.isSome ↔ (x.state = .qualifying ∨ x.state = .releasing)) ∧ (x.state = .disabled ↔ enabled = false)
    ∧ x.score ≤ chatterTop ∧ (x.state = .blocked → x.score = chatterTop)
    ∧ (x.state ≠ .blocked → x.state ≠ .disabled → x.score < chatterTop)
    ∧ (works = true → x.state = .idle ∨ x.state = .releasing → active = false)
    ∧ (works = true → x.state = .active ∨ x.state = .qualifying → active = true)

theorem inputSafe_iff (s : State) (i : Fin 16) :
    InputSafe s i ↔ InputFits (s.inputs.get i) (s.settings.inputs.inputs.get i).enabled (inputActive s i) (working s) :=
  Iff.rfl

section
variable {x : TripInput} {enabled active works : Bool}

/-- An enabled input that is not BLOCKED has a score below the top. -/
theorem InputFits.watched (h : InputFits x enabled active works) (blocked : x.state ≠ .blocked)
    (disabled : x.state ≠ .disabled) : enabled = true ∧ x.score < chatterTop := by
  obtain ⟨_, setting, _, _, below, _, _⟩ := h
  exact ⟨Bool.eq_true_of_not_eq_false fun off => disabled (setting.2 off), below blocked disabled⟩

/-- An inactive input is IDLE or RELEASING, or nobody watches it. -/
theorem InputFits.unwatched_of_inactive (h : InputFits x enabled false true) (idle : x.state ≠ .idle)
    (releasing : x.state ≠ .releasing) : x.state = .blocked ∨ x.state = .disabled := by
  obtain ⟨_, _, _, _, _, _, high⟩ := h
  cases state : x.state with
  | active => exact absurd (high rfl (.inl state)) (by decide)
  | qualifying => exact absurd (high rfl (.inr state)) (by decide)
  | idle => exact absurd state idle
  | releasing => exact absurd state releasing
  | blocked => exact .inl rfl
  | disabled => exact .inr rfl

/-- An active input is ACTIVE or QUALIFYING, or nobody watches it. -/
theorem InputFits.unwatched_of_active (h : InputFits x enabled true true) (active : x.state ≠ .active)
    (qualifying : x.state ≠ .qualifying) : x.state = .blocked ∨ x.state = .disabled := by
  obtain ⟨_, _, _, _, _, low, _⟩ := h
  cases state : x.state with
  | idle => exact absurd (low rfl (.inl state)) (by decide)
  | releasing => exact absurd (low rfl (.inr state)) (by decide)
  | active => exact absurd state active
  | qualifying => exact absurd state qualifying
  | blocked => exact .inl rfl
  | disabled => exact .inr rfl

/-- An input that nobody watches stands at any level. -/
theorem InputFits.unwatched_rests {active' works' : Bool} (h : InputFits x enabled active works)
    (unwatched : x.state = .blocked ∨ x.state = .disabled) : InputFits x enabled active' works' := by
  obtain ⟨capture, setting, top, blocked, below, _, _⟩ := h
  refine ⟨capture, setting, top, blocked, below, fun _ low => ?_, fun _ high => ?_⟩
  · rcases unwatched with state | state <;> simp [state] at low
  · rcases unwatched with state | state <;> simp [state] at high

/-- A part that no longer works asks less of an input. -/
theorem InputFits.rest {works' : Bool} (h : InputFits x enabled active works) (le : works' = true → works = true) :
    InputFits x enabled active works' := by
  obtain ⟨capture, setting, top, blocked, below, low, high⟩ := h
  exact ⟨capture, setting, top, blocked, below, fun w => low (le w), fun w => high (le w)⟩

theorem inputFits_blocked (state : x.state = .blocked) (capture : x.capture = none) (score : x.score = chatterTop) :
    InputFits x true active works := by simp [InputFits, state, capture, score]

theorem inputFits_disabled (state : x.state = .disabled) (capture : x.capture = none) (score : x.score ≤ chatterTop) :
    InputFits x false active works := by simp [InputFits, state, capture, score]

/-- The state that the level gives (R75, R81). -/
theorem inputFits_level (state : x.state = if active then .active else .idle) (capture : x.capture = none)
    (score : x.score < chatterTop) : InputFits x true active works := by
  cases active <;> simp_all [InputFits, Nat.le_of_lt]

theorem inputFits_qualifying (state : x.state = .qualifying) (capture : x.capture.isSome) (score : x.score < chatterTop) :
    InputFits x true true works := by simp_all [InputFits, Nat.le_of_lt]

theorem inputFits_releasing (state : x.state = .releasing) (capture : x.capture.isSome) (score : x.score < chatterTop) :
    InputFits x true false works := by simp_all [InputFits, Nat.le_of_lt]

/-- The score that takes an input to the top blocks it, and one below leaves it in the state that its level gives (R71, R72). -/
theorem inputFits_scored (state : x.state = if chatterTop ≤ x.score then .blocked else if active then .active else .idle)
    (capture : x.capture = none) (score : x.score ≤ chatterTop) : InputFits x true active works := by
  by_cases top : chatterTop ≤ x.score
  · exact inputFits_blocked (by rw [state, if_pos top]) capture (by omega)
  · exact inputFits_level (by rw [state, if_neg top]) capture (by omega)

/-- RETAIN entry of an input (R80). -/
theorem InputFits.retain (h : InputFits x enabled active works) : InputFits x.retain enabled active false := by
  obtain ⟨capture, setting, top, blocked, below, _, _⟩ := h
  unfold TripInput.retain
  cases state : x.state <;> simp_all [InputFits]

end

/-! ### What leaves the inputs -/

/-- From `s` to `t` nothing changes that InputsInv reads, but that the part may cease to work. -/
def LeavesInputs (s t : State) : Prop :=
  t.inputs = s.inputs ∧ t.settings.inputs.inputs = s.settings.inputs.inputs ∧ t.pins.tripIn = s.pins.tripIn
    ∧ (working t = true → working s = true)

theorem LeavesInputs.refl (s : State) : LeavesInputs s s := ⟨rfl, rfl, rfl, id⟩

theorem LeavesInputs.trans {s t u : State} (h : LeavesInputs s t) (k : LeavesInputs t u) : LeavesInputs s u := by
  obtain ⟨inputs, settings, lines, works⟩ := h
  obtain ⟨inputs', settings', lines', works'⟩ := k
  exact ⟨inputs'.trans inputs, settings'.trans settings, lines'.trans lines, fun w => works (works' w)⟩

theorem leavesInputs_of_touches {bs : List Block} {s t : State} (h : Touches bs s t) (hin : .inputs ∉ bs := by decide)
    (hset : .settings ∉ bs := by decide) (hsup : .supply ∉ bs := by decide) (hpin : .pins ∉ bs := by decide) :
    LeavesInputs s t := by
  have settings : t.settings = s.settings := h.same .settings hset
  have pins : t.pins = s.pins := h.same .pins hpin
  exact ⟨h.same .inputs hin, by rw [settings], by rw [pins], by rw [working_congr (h.same .supply hsup)]; exact id⟩

/-- An operation of the other blocks, made after a part that leaves the inputs. -/
theorem leavesInputs_after {bs : List Block} {s t u : State} (k : Touches bs t u) (h : LeavesInputs s t)
    (hin : .inputs ∉ bs := by decide) (hset : .settings ∉ bs := by decide) (hsup : .supply ∉ bs := by decide)
    (hpin : .pins ∉ bs := by decide) : LeavesInputs s u := h.trans (leavesInputs_of_touches k hin hset hsup hpin)

/-- The level of an input depends on the trip lines and the settings of the inputs. -/
theorem inputActive_congr {s t : State} (settings : t.settings.inputs.inputs = s.settings.inputs.inputs)
    (lines : t.pins.tripIn = s.pins.tripIn) (i : Fin 16) : inputActive t i = inputActive s i := by
  simp only [inputActive, tripHigh, settings, lines]

theorem LeavesInputs.keeps {s t : State} (h : LeavesInputs s t) (hs : InputsInv s) : InputsInv t := by
  obtain ⟨inputs, settings, lines, works⟩ := h
  intro i
  rw [inputSafe_iff, inputs, settings, inputActive_congr settings lines]
  exact InputFits.rest (hs i) works

theorem inputsInv_of_touches {bs : List Block} {s t : State} (hs : InputsInv s) (h : Touches bs s t)
    (hin : .inputs ∉ bs := by decide) (hset : .settings ∉ bs := by decide) (hsup : .supply ∉ bs := by decide)
    (hpin : .pins ∉ bs := by decide) : InputsInv t := (leavesInputs_of_touches h hin hset hsup hpin).keeps hs

/-- One input moves, and the others are as they were. -/
theorem inputsInv_of_one {s t : State} {i : Fin 16} (hs : InputsInv s) (works : working t = true → working s = true)
    (others : ∀ j, j ≠ i → t.inputs.get j = s.inputs.get j
      ∧ t.settings.inputs.inputs.get j = s.settings.inputs.inputs.get j ∧ inputActive t j = inputActive s j)
    (fits : InputFits (t.inputs.get i) (t.settings.inputs.inputs.get i).enabled (inputActive t i) (working t)) :
    InputsInv t := by
  intro j
  by_cases same : j = i
  · subst same
    exact fits
  · obtain ⟨input, setting, level⟩ := others j same
    rw [inputSafe_iff, input, setting, level]
    exact InputFits.rest (hs j) works

/-- One input is written, and of the other blocks none that the inputs read. -/
theorem inputsInv_of_set {bs : List Block} {s t : State} {i : Fin 16} {x : TripInput} (hs : InputsInv s)
    (h : Touches bs s t) (written : t.inputs = s.inputs.set i x)
    (fits : InputFits x (s.settings.inputs.inputs.get i).enabled (inputActive s i) (working s))
    (hset : .settings ∉ bs := by decide) (hsup : .supply ∉ bs := by decide) (hpin : .pins ∉ bs := by decide) :
    InputsInv t := by
  have settings : t.settings = s.settings := h.same .settings hset
  have pins : t.pins = s.pins := h.same .pins hpin
  have works : working t = working s := working_congr (h.same .supply hsup)
  have level : ∀ j, inputActive t j = inputActive s j :=
    inputActive_congr (by rw [settings]) (by rw [pins])
  refine inputsInv_of_one (i := i) hs (by rw [works]; exact id) (fun j other => ?_) ?_
  · rw [written, settings, level, Bank.get_set_other _ _ _ _ (Ne.symm other)]
    exact ⟨rfl, rfl, rfl⟩
  · rw [written, settings, level, works, Bank.get_set_same]
    exact fits

/-! ### The score (R71, R72) -/

theorem satSucc_le {top n : Nat} (h : n < top) : satSucc top n ≤ top := by
  rw [satSucc, if_pos h]
  exact h

/-- The input that takes a score, with the state that goes with it (R67, R71, R72). -/
def scoredInput (x : TripInput) (score : Nat) (below : InputState) : TripInput :=
  { x with score := score, capture := none, state := if chatterTop ≤ score then .blocked else below }

theorem blockInput_inputs (i : Fin 16) (s : State) :
    (blockInput i s).inputs = s.inputs.set i { s.inputs.get i with state := .blocked, capture := none } :=
  ((post_touches _ _).after (makeEntry_touches _ _ _).within : Touches [.log, .bursts, .notices] _ _).same .inputs

theorem scoreInput_inputs (i : Fin 16) (score : Nat) (below : InputState) (s : State) :
    (scoreInput i score below s).inputs = s.inputs.set i (scoredInput (s.inputs.get i) score below) := by
  unfold scoreInput scoredInput
  dsimp only
  split
  · rw [blockInput_inputs]
    simp
  · rfl

end Sys2Proof.Machine.InputLaws
end

section
/-! PROOF. Every step keeps the inputs safe (O7): the rows of the Trip Input Unit, the commands that write other settings, the
starts and stops of the part, and every row. -/

namespace Sys2Proof.Machine.InputLaws

open SourceLaws LineLaws

set_option Elab.async false

/-! ### The edges (R65 to R68) -/

/-- A line that moves, with what its input then makes of it. -/
theorem inputsInv_of_move {s t : State} {i : Fin 16} {x : TripInput} {b : Bool} (hs : InputsInv s)
    (inputs : t.inputs = s.inputs.set i x) (settings : t.settings = s.settings)
    (lines : t.pins.tripIn = (moveTripLine s i b).pins.tripIn) (works : working t = working s)
    (fits : InputFits x (s.settings.inputs.inputs.get i).enabled b (working s)) : InputsInv t := by
  have level : ∀ j, inputActive t j = inputActive (moveTripLine s i b) j :=
    inputActive_congr (by rw [settings]; rfl) lines
  refine inputsInv_of_one (i := i) hs (by rw [works]; exact id) (fun j other => ?_) ?_
  · rw [inputs, settings, level, Bank.get_set_other _ _ _ _ (Ne.symm other)]
    exact ⟨rfl, rfl, inputActive_moveTripLine_other s i j b other⟩
  · rw [inputs, settings, level, works, Bank.get_set_same, inputActive_moveTripLine_same]
    exact fits

/-- A line that moves alone: its input is not watched, or the part is in RETAIN. -/
theorem moveTripLine_inputs {s : State} {i : Fin 16} {b : Bool} (hs : InputsInv s)
    (unwatched : working s = false ∨ (s.inputs.get i).state = .blocked ∨ (s.inputs.get i).state = .disabled) :
    InputsInv (moveTripLine s i b) := by
  refine inputsInv_of_move (x := s.inputs.get i) hs (Bank.set_get _ _).symm rfl rfl rfl ?_
  obtain ⟨capture, setting, top, blocked, below, _, _⟩ := hs i
  refine ⟨capture, setting, top, blocked, below, ?_, ?_⟩ <;>
    rcases unwatched with retain | state | state <;> simp_all

theorem leadingEdge_inputs {i : Fin 16} {s : State} (hs : InputsInv s) : InputsInv (leadingEdge i s) := by
  have input := (inputSafe_iff s i).1 (hs i)
  unfold leadingEdge
  split
  · exact hs
  next inactive =>
    dsimp only
    split
    next works =>
      unfold takeLeading
      split
      next state =>
        obtain ⟨enabled, score⟩ := input.watched (by exact state ▸ by decide) (by exact state ▸ by decide)
        refine inputsInv_of_move (b := true) hs rfl rfl rfl rfl ?_
        rw [enabled]
        exact inputFits_qualifying rfl rfl score
      next state =>
        obtain ⟨enabled, score⟩ := input.watched (by exact state ▸ by decide) (by exact state ▸ by decide)
        refine inputsInv_of_move (b := true) hs rfl rfl rfl rfl ?_
        rw [enabled]
        exact inputFits_level rfl rfl score
      next idle releasing =>
        rw [Bool.eq_false_iff.2 inactive, works] at input
        exact moveTripLine_inputs hs (.inr (input.unwatched_of_inactive idle releasing))
    next resting => exact moveTripLine_inputs hs (.inl (Bool.eq_false_iff.2 resting))

theorem trailingEdge_inputs {i : Fin 16} {s : State} (hs : InputsInv s) : InputsInv (trailingEdge i s) := by
  have input := (inputSafe_iff s i).1 (hs i)
  unfold trailingEdge
  split
  · exact hs
  next active =>
    dsimp only
    split
    next works =>
      unfold takeTrailing
      split
      next state =>
        obtain ⟨enabled, score⟩ := input.watched (by exact state ▸ by decide) (by exact state ▸ by decide)
        refine inputsInv_of_move (b := false) hs rfl rfl rfl rfl ?_
        rw [enabled]
        exact inputFits_releasing rfl rfl score
      next state =>
        obtain ⟨enabled, score⟩ := input.watched (by exact state ▸ by decide) (by exact state ▸ by decide)
        have moved := scoreInput_touches i (satSucc chatterTop (s.inputs.get i).score) .idle (moveTripLine s i false)
        refine inputsInv_of_move (b := false) hs (scoreInput_inputs i _ _ _) (moved.same .settings)
          (congrArg Pins.tripIn (moved.same .pins)) (working_congr (moved.same .supply)) ?_
        rw [enabled]
        exact inputFits_scored rfl rfl (satSucc_le score)
      next active' qualifying =>
        rw [Bool.eq_true_of_not_eq_false active, works] at input
        exact moveTripLine_inputs hs (.inr (input.unwatched_of_active active' qualifying))
    next resting => exact moveTripLine_inputs hs (.inl (Bool.eq_false_iff.2 resting))

/-! ### Qualifying (R67 to R71) -/

/-- What qualifies: the input's capture, in its state, in a part that works (R67, R68). -/
theorem qualified_eq_some {x : InputState} {i : Fin 16} {s : State} {c : Capture} (h : qualified x i s = some c) :
    (s.inputs.get i).capture = some c ∧ (s.inputs.get i).state = x ∧ working s = true := by
  unfold qualified at h
  split at h
  · cases h
  next captured =>
    split at h
    next due =>
      obtain ⟨works, state, _⟩ := due
      cases h
      exact ⟨captured, state, works⟩
    next => cases h

theorem scoreAfter_le {s : State} {i : Fin 16} {c : Capture} (score : (s.inputs.get i).score < chatterTop) :
    scoreAfter s i c ≤ chatterTop := by
  unfold scoreAfter
  split
  · exact satSucc_le score
  · omega

/-- The input after a qualified assert (R67, R71, R72). -/
def qualifiedInput (i : Fin 16) (c : Capture) (s : State) : TripInput :=
  scoredInput { s.inputs.get i with lastAssert := some c.reading } (scoreAfter s i c) .active

theorem qualifyAssert_inputs_eq {i : Fin 16} {c : Capture} {s : State} (due : qualified .qualifying i s = some c) :
    (qualifyAssert i s).inputs = s.inputs.set i (qualifiedInput i c s) := by
  have made : (makeAssert i c.stamp false s).inputs = s.inputs := (makeAssert_touches i c.stamp false s).same .inputs
  simp only [qualifyAssert, due, scoreInput_inputs, withInput_inputs, made, Bank.get_set_same, Bank.set_set, qualifiedInput]

theorem qualifyAssert_inputs {i : Fin 16} {s : State} (hs : InputsInv s) : InputsInv (qualifyAssert i s) := by
  cases due : qualified .qualifying i s with
  | none => simpa only [qualifyAssert, due] using hs
  | some c =>
    obtain ⟨_, state, works⟩ := qualified_eq_some due
    have input := (inputSafe_iff s i).1 (hs i)
    obtain ⟨enabled, score⟩ := input.watched (by exact state ▸ by decide) (by exact state ▸ by decide)
    obtain ⟨_, _, _, _, _, _, high⟩ := hs i
    refine inputsInv_of_set hs (qualifyAssert_touches i s) (qualifyAssert_inputs_eq due) ?_
    rw [enabled, high works (.inr state)]
    exact inputFits_scored rfl rfl (scoreAfter_le score)

theorem qualifyRelease_inputs_eq {i : Fin 16} {c : Capture} {s : State} (due : qualified .releasing i s = some c) :
    (qualifyRelease i s).inputs = s.inputs.set i { s.inputs.get i with state := .idle, capture := none } := by
  have made : ∀ b x, (makeEntry b x s).inputs = s.inputs := fun b x => (makeEntry_touches b x s).same .inputs
  simp only [qualifyRelease, due]
  split
  · rw [withInput_inputs, made]
  · rfl

theorem qualifyRelease_inputs {i : Fin 16} {s : State} (hs : InputsInv s) : InputsInv (qualifyRelease i s) := by
  cases due : qualified .releasing i s with
  | none => simpa only [qualifyRelease, due] using hs
  | some c =>
    obtain ⟨_, state, works⟩ := qualified_eq_some due
    have input := (inputSafe_iff s i).1 (hs i)
    obtain ⟨enabled, score⟩ := input.watched (by exact state ▸ by decide) (by exact state ▸ by decide)
    obtain ⟨_, _, _, _, _, low, _⟩ := hs i
    refine inputsInv_of_set hs (qualifyRelease_touches i s) (qualifyRelease_inputs_eq due) ?_
    rw [enabled, low works (.inr state)]
    exact inputFits_level rfl rfl score

/-! ### The commands of the inputs (R73 to R76) -/

theorem stateOfLevel_eq (s : State) (i : Fin 16) : stateOfLevel s i = if inputActive s i then .active else .idle := rfl

theorem allowInput_inputs {args : List Byte} {s : State} (hs : InputsInv s) : InputsInv (allowInput args s).state := by
  unfold allowInput
  split
  · exact hs
  next i _ =>
    split
    · exact hs
    next blocked =>
      have state : (s.inputs.get i).state = .blocked := Classical.not_not.1 blocked
      obtain ⟨capture, setting, _, _, _, _, _⟩ := hs i
      have enabled : (s.settings.inputs.inputs.get i).enabled = true :=
        Bool.eq_true_of_not_eq_false fun off => absurd (state.symm.trans (setting.2 off)) (by decide)
      have uncaptured : (s.inputs.get i).capture = none := by simpa [state] using capture
      dsimp only
      split
      next active =>
        refine inputsInv_of_set (i := i) hs ((makeAssert_touches _ _ _ _).after (Touches.write (bs := [.inputs])).within
            : Touches [.inputs, .log, .bursts, .shift, .units, .store, .ports, .notices] _ _)
          ((makeAssert_touches _ _ _ _).same .inputs) ?_
        rw [enabled, active]
        exact inputFits_level rfl uncaptured (by simp [chatterTop])
      next inactive =>
        refine inputsInv_of_set (bs := [.inputs]) (i := i) hs .write rfl ?_
        rw [enabled, Bool.eq_false_iff.2 inactive]
        exact inputFits_level rfl uncaptured (by simp [chatterTop])

/-- The input after its setting became another (R74, R75). -/
def resetInput (old fresh : InputSetting) (high : Bool) (x : TripInput) : TripInput :=
  if old.enabled = true ∧ fresh.enabled = false then { x with state := .disabled, capture := none }
  else if old.enabled = false ∧ fresh.enabled = true then
    { state := if activeUnder fresh high then .active else .idle, capture := none, score := 0, lastAssert := none }
  else if fresh.enabled = true ∧ old.activeLow ≠ fresh.activeLow ∧ x.state ≠ .blocked then
    { x with state := if activeUnder fresh high then .active else .idle, capture := none }
  else x

@[simp] theorem withInput_get (s : State) (i : Fin 16) : s.withInput i (s.inputs.get i) = s := by
  rw [State.withInput, Bank.set_get]

theorem applySetting_eq (old : InputSetting) (i : Fin 16) (s : State) :
    applySetting old i s =
      s.withInput i (resetInput old (s.settings.inputs.inputs.get i) (tripHigh s i) (s.inputs.get i)) := by
  unfold applySetting resetInput
  dsimp only
  split
  next was is => simp only [was, is, and_self, if_true]
  next was is =>
    rw [if_neg (by simp [was]), if_pos ⟨was, is⟩]
    rfl
  next was is =>
    split
    next stays =>
      rw [if_neg (by simp [is]), if_neg (by simp [was]), if_neg (by tauto), withInput_get]
    next moves =>
      rw [if_neg (by simp [is]), if_neg (by simp [was]), if_pos (by tauto)]
      rfl
  next was is => rw [if_neg (by simp [was]), if_neg (by simp [is]), if_neg (by simp [is]), withInput_get]

/-- A new setting leaves its input in step (R74, R75). -/
theorem resetInput_fits {old fresh : InputSetting} {high active works : Bool} {x : TripInput}
    (h : InputFits x old.enabled active works) (level : active = activeUnder old high) :
    InputFits (resetInput old fresh high x) fresh.enabled (activeUnder fresh high) works := by
  unfold resetInput
  split
  next disabled =>
    obtain ⟨_, off⟩ := disabled
    obtain ⟨_, _, top, _⟩ := h
    rw [off]
    exact inputFits_disabled rfl rfl top
  next stays =>
    split
    next enabled =>
      obtain ⟨_, on⟩ := enabled
      rw [on]
      exact inputFits_level rfl rfl (by simp [chatterTop])
    next same =>
      have as : old.enabled = fresh.enabled := by
        cases was : old.enabled <;> cases is : fresh.enabled <;> simp_all
      split
      next moves =>
        obtain ⟨on, _, blocked⟩ := moves
        obtain ⟨_, setting, _, _, below, _, _⟩ := h
        rw [on]
        refine inputFits_level rfl rfl (below blocked fun disabled => ?_)
        exact absurd ((setting.1 disabled).symm.trans (as.trans on)) (by decide)
      next rests =>
        rw [← as]
        by_cases watched : x.state = .blocked ∨ x.state = .disabled
        · exact h.unwatched_rests watched
        · have unblocked : x.state ≠ .blocked := fun w => watched (.inl w)
          obtain ⟨on, _⟩ := h.watched unblocked fun w => watched (.inr w)
          have polarity : old.activeLow = fresh.activeLow := by
            by_contra differ
            exact rests ⟨as ▸ on, differ, unblocked⟩
          have kept : activeUnder fresh high = active := by rw [level, activeUnder, activeUnder, polarity]
          rwa [kept]

/-- SET INPUT's write: the setting of input `i`, and what it makes of the input (R74 to R76). -/
def giveSetting (i : Fin 16) (fresh : InputSetting) (s : State) : State :=
  { s with
    settings := { s.settings with inputs := { s.settings.inputs with
      inputs := s.settings.inputs.inputs.set i fresh } }
    inputs := s.inputs.set i
      (resetInput (s.settings.inputs.inputs.get i) fresh (tripHigh s i) (s.inputs.get i)) }

theorem setInput_eq {p : Port} {args : List Byte} {s : State} {i : Fin 16} {fresh : InputSetting}
    (index : indexOf 16 (argNumber args 0 1) = some i) (given : inputSettingOf args = some fresh) :
    setInput p args s = unlessLocked p .inputs
      (fun s => { state := giveSetting i fresh s, status := clampedStatus (outside 1 255 (argNumber args 5 1)) }) s := by
  simp only [setInput, index, given, applySetting_eq, Bank.get_set_same]
  rfl

theorem giveSetting_inputs {i : Fin 16} {fresh : InputSetting} {s : State} (hs : InputsInv s) :
    InputsInv (giveSetting i fresh s) := by
  refine inputsInv_of_one (i := i) hs id (fun j other => ?_) ?_
  · simp only [giveSetting, inputActive, tripHigh, Bank.get_set_other _ _ _ _ (Ne.symm other), and_self]
  · simp only [giveSetting, inputActive, tripHigh, Bank.get_set_same]
    exact resetInput_fits (hs i) rfl

theorem setInput_inputs {p : Port} {args : List Byte} {s : State} (hs : InputsInv s) :
    InputsInv (setInput p args s).state := by
  cases index : indexOf 16 (argNumber args 0 1) with
  | none => simpa only [setInput, index, refuse] using hs
  | some i =>
    cases given : inputSettingOf args with
    | none => simpa only [setInput, index, given, refuse] using hs
    | some fresh =>
      rw [setInput_eq index given]
      unfold unlessLocked
      split
      · exact hs
      · exact giveSetting_inputs hs

/-! ### Frames -/

theorem atRise_inputs {p : Port} {take : State → State} {s : State} (htake : ∀ u, InputsInv u → InputsInv (take u))
    (hs : InputsInv s) : InputsInv (atRise p take s) := by
  have ended : InputsInv (endTransaction p s) := inputsInv_of_touches hs (endTransaction_touches p s)
  unfold atRise
  split
  · exact hs
  · dsimp only
    split
    · exact ended
    · split
      · exact inputsInv_of_touches (bs := [.ports]) ended .write
      · exact htake _ ended

/-- A command's frame keeps the inputs safe when the command's own block does. -/
theorem carryOut_inputs {p : Port} {args : List Byte} {good : Bool} {body : State → Reply} {s : State}
    (hbody : ∀ u, InputsInv u → InputsInv (body u).state) (hs : InputsInv s) : InputsInv (carryOut p args good body s) := by
  have answers : ∀ (x : Status) (r : Result) (u : State), InputsInv u → InputsInv (answerPort p x r u) :=
    fun x r u hu => inputsInv_of_touches hu (answerPort_touches p x r u)
  refine atRise_inputs (fun u hu => ?_) hs
  split
  · exact answers _ _ _ hu
  · split
    · exact answers _ _ _ hu
    · exact answers _ _ _ (hbody u hu)

/-- A command whose block leaves the inputs. -/
theorem carryOut_leavesInputs {p : Port} {args : List Byte} {good : Bool} {body : State → Reply} {s : State}
    (hbody : ∀ u, LeavesInputs u (body u).state) (hs : InputsInv s) : InputsInv (carryOut p args good body s) :=
  carryOut_inputs (fun u hu => (hbody u).keeps hu) hs

/-- A command whose block touches neither the inputs nor the settings, the supply and the pins. -/
theorem carryOut_touches_inputs {bs : List Block} {p : Port} {args : List Byte} {good : Bool} {body : State → Reply}
    {s : State} (h : ∀ u, Touches bs u (body u).state) (hs : InputsInv s) (hin : .inputs ∉ bs := by decide)
    (hset : .settings ∉ bs := by decide) (hsup : .supply ∉ bs := by decide) (hpin : .pins ∉ bs := by decide) :
    InputsInv (carryOut p args good body s) :=
  carryOut_leavesInputs (fun u => leavesInputs_of_touches (h u) hin hset hsup hpin) hs

/-- A command that only reads. -/
theorem carryOut_reads_inputs {p : Port} {args : List Byte} {good : Bool} {result : State → Result} {s : State}
    (hs : InputsInv s) :
    InputsInv (carryOut p args good (fun u => { state := u, status := .done, result := result u }) s) :=
  carryOut_leavesInputs LeavesInputs.refl hs

/-! ### The commands that write other settings -/

theorem unlessLocked_leavesInputs {p : Port} {g : Group} {body : State → Reply} {s : State}
    (h : LeavesInputs s (body s).state) : LeavesInputs s (unlessLocked p g body s).state := by
  unfold unlessLocked
  split
  · exact .refl s
  · exact h

/-- Settings written outside those of the inputs. -/
theorem leavesInputs_settings {s : State} {x : Settings} (h : x.inputs.inputs = s.settings.inputs.inputs) :
    LeavesInputs s { s with settings := x } := ⟨rfl, h, rfl, id⟩

theorem setClock_leavesInputs (p : Port) (args : List Byte) (s : State) : LeavesInputs s (setClock p args s).state := by
  unfold setClock
  dsimp only
  split
  · exact .refl s
  · exact unlessLocked_leavesInputs ⟨rfl, rfl, rfl, id⟩

theorem setDate_leavesInputs (p : Port) (args : List Byte) (s : State) : LeavesInputs s (setDate p args s).state := by
  unfold setDate
  dsimp only
  split
  · exact .refl s
  · exact leavesInputs_of_touches (offerToSlot_touches _ _ _ s)

theorem rearmSource_leavesInputs (s : State) : LeavesInputs s (rearmSource s).state :=
  leavesInputs_of_touches ((evaluateSource_touches _).after .write : Touches [.clk, .mq, .shift, .notices] _ _)

theorem setMarkWindow_leavesInputs (p : Port) (args : List Byte) (s : State) :
    LeavesInputs s (setMarkWindow p args s).state := unlessLocked_leavesInputs (leavesInputs_settings rfl)

theorem setLineMarks_leavesInputs (p : Port) (args : List Byte) (s : State) :
    LeavesInputs s (setLineMarks p args s).state := by
  unfold setLineMarks
  dsimp only
  split
  · exact .refl s
  · refine unlessLocked_leavesInputs ?_
    dsimp only
    split
    · exact leavesInputs_after (evaluateSource_touches _) ⟨rfl, rfl, rfl, id⟩
    · exact ⟨rfl, rfl, rfl, id⟩

theorem setLineRole_leavesInputs (p : Port) (args : List Byte) (s : State) :
    LeavesInputs s (setLineRole p args s).state := by
  unfold setLineRole
  split
  · exact .refl s
  · refine unlessLocked_leavesInputs ?_
    split
    · exact ⟨rfl, rfl, rfl, id⟩
    · exact ⟨rfl, rfl, rfl, id⟩

theorem setLine_leavesInputs (p : Port) (args : List Byte) (s : State) : LeavesInputs s (setLine p args s).state := by
  unfold setLine
  dsimp only
  split
  · exact .refl s
  · exact unlessLocked_leavesInputs (leavesInputs_settings rfl)

theorem readLine_leavesInputs (args : List Byte) (s : State) : LeavesInputs s (readLine args s).state := by
  unfold readLine
  split
  · exact .refl s
  · dsimp only
    split
    · exact ⟨rfl, rfl, rfl, id⟩
    · exact .refl s

theorem setChatterInterval_leavesInputs (p : Port) (args : List Byte) (s : State) :
    LeavesInputs s (setChatterInterval p args s).state := unlessLocked_leavesInputs (leavesInputs_settings rfl)

theorem setFilter_leavesInputs (p : Port) (args : List Byte) (s : State) : LeavesInputs s (setFilter p args s).state := by
  unfold setFilter
  split
  · exact unlessLocked_leavesInputs (leavesInputs_settings rfl)
  · exact .refl s

theorem setBurstGap_leavesInputs (p : Port) (args : List Byte) (s : State) :
    LeavesInputs s (setBurstGap p args s).state :=
  unlessLocked_leavesInputs (leavesInputs_after (judgeGap_touches _) ⟨rfl, rfl, rfl, id⟩)

theorem setModeTable_leavesInputs (p : Port) (args : List Byte) (s : State) :
    LeavesInputs s (setModeTable p args s).state := by
  have decoded : ∀ t, Touches [.units] t (allUnits.foldl (fun t u => if isFitted t u then decodeUnit u t else t) t) := by
    refine fun t => Touches.foldl (fun t u => ?_) _ _
    split
    · exact decodeUnit_touches _ _
    · exact .refl
  unfold setModeTable
  split
  · exact .refl s
  · split
    · exact unlessLocked_leavesInputs (leavesInputs_after (decoded _) ⟨rfl, rfl, rfl, id⟩)
    · exact .refl s

theorem setUnits_leavesInputs (p : Port) (args : List Byte) (s : State) : LeavesInputs s (setUnits p args s).state := by
  unfold setUnits
  dsimp only
  split
  · exact .refl s
  · exact unlessLocked_leavesInputs (leavesInputs_after (Touches.foldl (fun t u => expireSettle_touches u t) _ _)
      (leavesInputs_after (Touches.foldl (refit_touches _) _ _) ⟨rfl, rfl, rfl, id⟩))

theorem setServiceLimit_leavesInputs (p : Port) (args : List Byte) (s : State) :
    LeavesInputs s (setServiceLimit p args s).state := by
  unfold setServiceLimit
  split
  · exact .refl s
  · exact unlessLocked_leavesInputs (leavesInputs_after (serviceTest_touches _ _) ⟨rfl, rfl, rfl, id⟩)

theorem setCommitInterval_leavesInputs (p : Port) (args : List Byte) (s : State) :
    LeavesInputs s (setCommitInterval p args s).state := unlessLocked_leavesInputs (leavesInputs_settings rfl)

theorem setSchedule_leavesInputs (p : Port) (args : List Byte) (s : State) :
    LeavesInputs s (setSchedule p args s).state := by
  unfold setSchedule
  split
  · exact .refl s
  · split
    · exact .refl s
    · split
      · exact .refl s
      · exact unlessLocked_leavesInputs ⟨rfl, rfl, rfl, id⟩

theorem setShiftTimes_leavesInputs (p : Port) (args : List Byte) (s : State) :
    LeavesInputs s (setShiftTimes p args s).state :=
  unlessLocked_leavesInputs (leavesInputs_after (judgeWindow_touches _) ⟨rfl, rfl, rfl, id⟩)

theorem setNotices_leavesInputs (p : Port) (args : List Byte) (s : State) :
    LeavesInputs s (setNotices p args s).state := by
  unfold setNotices
  dsimp only
  split
  · split
    · exact ⟨rfl, rfl, rfl, id⟩
    · exact unlessLocked_leavesInputs ⟨rfl, rfl, rfl, id⟩
  · exact .refl s

/-! ### The other pins -/

theorem standFibre_leavesInputs (s : State) : LeavesInputs s (standFibre s) := leavesInputs_of_touches (standFibre_touches s)

theorem fibreEdge_leavesInputs (c : FibreChange) (s : State) : LeavesInputs s (fibreEdge c s) := by
  unfold fibreEdge
  split
  · unfold moveFibre
    split
    · exact .refl s
    · split
      · exact ⟨rfl, rfl, rfl, id⟩
      · exact (leavesInputs_after (catchUp_touches _) (standFibre_leavesInputs s)).trans ⟨rfl, rfl, rfl, id⟩
  · exact standFibre_leavesInputs s

theorem changeCode_leavesInputs (u : Fin 8) (code : BitVec 4) (s : State) : LeavesInputs s (changeCode u code s) := by
  have moved : ∀ x : BitVec 32, LeavesInputs s { s with pins := { s.pins with unitState := x } } :=
    fun _ => ⟨rfl, rfl, rfl, id⟩
  unfold changeCode
  split
  · exact .refl s
  · dsimp only
    split
    · exact leavesInputs_after (decodeUnit_touches _ _) (moved _)
    · exact moved _

/-- The other parties' level of TIME_LINE is no trip line. -/
theorem leavesInputs_timeLine (l : Level) (s : State) : LeavesInputs s { s with pins := { s.pins with timeLine := l } } :=
  ⟨rfl, rfl, rfl, id⟩

theorem fallLine_leavesInputs (s : State) : LeavesInputs s (fallLine s) := by
  unfold fallLine
  split
  · exact .refl s
  · split
    · exact leavesInputs_timeLine _ s
    · have followed := leavesInputs_after (followLine_touches (lineLevel (settleReceiver s)) _)
        ((leavesInputs_of_touches (settleReceiver_touches s)).trans (leavesInputs_timeLine .low _))
      dsimp only
      split
      · exact followed.trans ⟨rfl, rfl, rfl, id⟩
      · exact followed

theorem raiseLine_leavesInputs (s : State) : LeavesInputs s (raiseLine s) := by
  unfold raiseLine
  split
  · exact .refl s
  · dsimp only
    split
    · exact leavesInputs_timeLine _ s
    · exact leavesInputs_after (settleReceiver_touches _)
        (leavesInputs_after (followLine_touches _ _) (leavesInputs_timeLine _ s))

theorem lineReset_leavesInputs (s : State) : LeavesInputs s (lineReset s) := by
  unfold lineReset
  split
  · exact .refl s
  · dsimp only
    split
    · exact ⟨rfl, rfl, rfl, id⟩
    · exact ⟨rfl, rfl, rfl, id⟩

/-! ### The supply (R80 to R82, R144 to R150) -/

/-- The Supply Monitor moves in a part that worked already, or works no more. -/
theorem leavesInputs_supply {s : State} {x : SupplyMonitor} (h : working { s with supply := x } = true → working s = true) :
    LeavesInputs s { s with supply := x } := ⟨rfl, rfl, rfl, h⟩

theorem moveSupply_leavesInputs (b : SupplyBand) (s : State) : LeavesInputs s (moveSupply b s) := ⟨rfl, rfl, rfl, id⟩

theorem setRestore_leavesInputs (r : Option Reading) (s : State) : LeavesInputs s (setRestore r s) := ⟨rfl, rfl, rfl, id⟩

theorem restoreRises_leavesInputs (s : State) : LeavesInputs s (restoreRises s) := by
  unfold restoreRises
  split
  · exact .refl s
  · dsimp only
    split
    · exact ⟨rfl, rfl, rfl, id⟩
    · exact ⟨rfl, rfl, rfl, id⟩

theorem restoreFalls_leavesInputs (s : State) : LeavesInputs s (restoreFalls s) := by
  unfold restoreFalls
  split
  · exact .refl s
  · exact ⟨rfl, rfl, rfl, id⟩

theorem enterWarning_leavesInputs {s : State} (normal : s.supply.state = .normal) : LeavesInputs s (enterWarning s) :=
  LeavesInputs.trans (leavesInputs_supply (x := { s.supply with
      state := .warning, warnings := satSucc top16 s.supply.warnings, restore := none }) (by simp [working, normal]))
    ⟨rfl, rfl, rfl, id⟩

theorem warningFall_leavesInputs (s : State) : LeavesInputs s (warningFall s) := by
  unfold warningFall
  split
  · exact .refl s
  · dsimp only
    split
    next h =>
      obtain ⟨_, normal⟩ := h
      exact leavesInputs_after (startProgram_touches _)
        ((moveSupply_leavesInputs _ s).trans (enterWarning_leavesInputs normal))
    next => exact ⟨rfl, rfl, rfl, id⟩

theorem returnToNormal_leavesInputs (s : State) : LeavesInputs s (returnToNormal s) := by
  unfold returnToNormal
  split
  · exact .refl s
  next due =>
    have warned : s.supply.state = .warning := by
      simp only [returnDue, Bool.not_eq_false, Bool.and_eq_true, decide_eq_true_eq] at due
      exact due.1
    exact LeavesInputs.trans (leavesInputs_supply (x := { s.supply with state := .normal, restore := none })
      (by simp [working, warned])) ⟨rfl, rfl, rfl, id⟩

/-- A part that stops has every input disabled, with the default settings. -/
theorem stopPart_inputs (s : State) : InputsInv (stopPart s) := by
  intro i
  have input : (stopPart s).inputs.get i = .reset := Bank.get_fill _ _ i
  have setting : (stopPart s).settings.inputs.inputs.get i = .default := Bank.get_fill _ _ i
  rw [inputSafe_iff, input, setting]
  exact inputFits_disabled rfl rfl (Nat.zero_le _)

/-- RETAIN entry gives up every capture (R80), in a part that works no more. -/
theorem retainBlocks_inputs {s : State} (hs : InputsInv s) (idle : working s = false) : InputsInv (retainBlocks s) := by
  have inputs : (retainBlocks s).inputs = .ofFn fun i => (s.inputs.get i).retain := by
    have before : Touches [.clk, .mq, .tl, .store, .supply, .shift, .notices] s
        (retainLine (retainMarks (retainClock (tearStore s)))) :=
      (retainLine_touches _).after ((retainMarks_touches _).after
        ((retainClock_touches _).after (tearStore_touches s).within))
    have after : Touches [.bursts, .units, .shift, .ports, .notices]
        (retainInputs (retainLine (retainMarks (retainClock (tearStore s))))) (retainBlocks s) :=
      (stopPorts_touches _).after ((retainNotices_touches _).after ((retainShift_touches _).after
        ((retainUnits_touches _).after (retainBursts_touches _).within)))
    rw [after.same .inputs, retainInputs, before.same .inputs]
  have settings : (retainBlocks s).settings = s.settings := (retainBlocks_touches s).same .settings
  have pins : (retainBlocks s).pins = s.pins := (retainBlocks_touches s).same .pins
  have supply : (retainBlocks s).supply = (tearStore s).supply :=
    ((stopPorts_touches _).after ((retainNotices_touches _).after ((retainShift_touches _).after
      ((retainUnits_touches _).after ((retainBursts_touches _).after ((retainInputs_touches _).after
        ((retainLine_touches _).after ((retainMarks_touches _).after (retainClock_touches _).within)))))))
      : Touches [.clk, .mq, .tl, .inputs, .bursts, .units, .shift, .ports, .notices] (tearStore s) _).same .supply
  have works : working (retainBlocks s) = false := (working_congr supply).trans idle
  have level : ∀ i, inputActive (retainBlocks s) i = inputActive s i :=
    inputActive_congr (congrArg (fun x => x.inputs.inputs) settings) (congrArg (fun x => x.tripIn) pins)
  intro i
  rw [inputSafe_iff, inputs, settings, level, works, Bank.get_ofFn]
  exact InputFits.retain (hs i)

theorem enterRetain_inputs {s : State} (hs : InputsInv s) : InputsInv (enterRetain s) := by
  have opened : InputsInv (openGap s) := (leavesInputs_supply (by simp [working])).keeps hs
  unfold enterRetain
  dsimp only
  split
  · exact stopPart_inputs _
  · exact retainBlocks_inputs opened (by simp [working, openGap])

theorem lowFall_inputs {s : State} (hs : InputsInv s) : InputsInv (lowFall s) := by
  have moved : InputsInv (moveSupply .belowLow s) := (moveSupply_leavesInputs _ s).keeps hs
  unfold lowFall
  split
  · exact hs
  · dsimp only
    split
    · exact moved
    · split
      next normal => exact enterRetain_inputs ((enterWarning_leavesInputs normal).keeps moved)
      next => exact enterRetain_inputs moved
      next => exact (setRestore_leavesInputs _ _).keeps moved

theorem loseCell_inputs {s : State} (hs : InputsInv s) : InputsInv (loseCell s) := by
  unfold loseCell
  split
  · exact hs
  · split
    · exact stopPart_inputs s
    · exact LeavesInputs.keeps ⟨rfl, rfl, rfl, id⟩ hs

/-- The warm start gives every watched input the state of its level (R81). -/
theorem warmInput_fits {s : State} {i : Fin 16} (hs : InputSafe s i) (works : Bool) :
    InputFits (warmInput s i) (s.settings.inputs.inputs.get i).enabled (inputActive s i) works := by
  have input := (inputSafe_iff s i).1 hs
  unfold warmInput
  dsimp only
  split
  next watched =>
    obtain ⟨enabled, blocked⟩ := watched
    obtain ⟨_, setting, _, _, below, _, _⟩ := input
    rw [enabled]
    refine inputFits_level rfl rfl (below blocked fun disabled => ?_)
    exact absurd ((setting.1 disabled).symm.trans enabled) (by decide)
  next unwatched =>
    refine input.unwatched_rests ?_
    by_contra watched
    have blocked : (s.inputs.get i).state ≠ .blocked := fun h => watched (.inl h)
    obtain ⟨enabled, _⟩ := input.watched blocked fun h => watched (.inr h)
    exact unwatched ⟨enabled, blocked⟩

/-- The warm start finds the inputs, their settings and their lines as RETAIN left them. -/
theorem warmBlocks_inputs {s t : State} (hs : InputsInv s) (inputs : t.inputs = s.inputs) (settings : t.settings = s.settings)
    (pins : t.pins = s.pins) : InputsInv (warmBlocks t) := by
  have before : Touches [.clk, .mq, .tl, .shift, .notices] t (warmLine (warmMarks (warmClock t))) :=
    (warmLine_touches _).after ((evaluateSource_touches _).after .write)
  have after : Touches [.units, .shift, .notices, .store, .ports, .locks]
      (warmInputs (warmLine (warmMarks (warmClock t)))) (warmBlocks t) :=
    (freeLocks_touches _).after ((stopPorts_touches _).after ((repairStore_touches _).after ((warmShift_touches _).after
      (warmUnits_touches _).within)))
  refine inputsInv_of_touches (fun i => ?_) after
  have input : (warmLine (warmMarks (warmClock t))).inputs.get i = s.inputs.get i := by
    rw [before.same .inputs, inputs]
  have setting : (warmLine (warmMarks (warmClock t))).settings = s.settings := Eq.trans (before.same .settings) settings
  have lines : (warmLine (warmMarks (warmClock t))).pins = s.pins := Eq.trans (before.same .pins) pins
  generalize warmLine (warmMarks (warmClock t)) = u at input setting lines
  have warmed : (warmInputs u).inputs.get i = warmInput s i := by
    simp only [warmInputs, Bank.get_ofFn, warmInput, stateOfLevel, input, setting,
      inputActive_congr (show u.settings.inputs.inputs = s.settings.inputs.inputs by rw [setting])
        (show u.pins.tripIn = s.pins.tripIn by rw [lines])]
  rw [inputSafe_iff, warmed]
  have level : inputActive (warmInputs u) i = inputActive s i :=
    inputActive_congr (congrArg (fun x => x.inputs.inputs) setting) (congrArg (fun x => x.tripIn) lines) i
  rw [level]
  show InputFits _ (u.settings.inputs.inputs.get i).enabled _ _
  rw [setting]
  exact warmInput_fits (hs i) _

theorem warmStart_inputs {s : State} (hs : InputsInv s) : InputsInv (warmStart s) := by
  have gap : ∀ u, Touches [.log, .bursts, .notices] u (recordGap (startNotices .supplyReturn u)) :=
    fun u => (makeEntry_touches _ _ _).after (startNotices_touches _ u).within
  unfold warmStart
  split
  · exact hs
  · have logged := gap { s with supply := { s.supply with state := .normal, restore := none } }
    dsimp only
    generalize recordGap _ = t at logged
    have warm := warmBlocks_inputs hs (logged.same .inputs) (logged.same .settings) (logged.same .pins)
    generalize warmBlocks t = w at warm
    exact LeavesInputs.keeps ⟨rfl, rfl, rfl, id⟩ warm

/-- A cold start gives every enabled input the state of its level (R82). -/
theorem coldBlocks_inputs (s : State) : InputsInv (coldBlocks s) := by
  intro i
  have input : (coldBlocks s).inputs.get i = coldInput s i := Bank.get_ofFn _ i
  rw [inputSafe_iff, input]
  show InputFits _ (s.settings.inputs.inputs.get i).enabled (inputActive s i) _
  unfold coldInput
  split
  next enabled =>
    rw [enabled]
    exact inputFits_level rfl rfl (by simp [chatterTop])
  next disabled =>
    rw [Bool.eq_false_iff.2 disabled]
    exact inputFits_disabled rfl rfl (Nat.zero_le _)

theorem powerUp_inputs {s : State} (hs : InputsInv s) : InputsInv (powerUp s) := by
  unfold powerUp
  split
  · exact coldBlocks_inputs _
  · exact hs

/-! ### One oscillator period -/

theorem settleLines_touches (was : Level) (s : State) : Touches [.mq, .tl] s (settleLines was s) := by
  unfold settleLines
  split
  · exact (settleReceiver_touches _).after ((readBit_touches _).after ((settleStart_touches _).after
      ((growFree_touches _).after ((followLine_touches was _).after (settleRecogniser_touches s).within))))
  · exact .refl

theorem tick_touches (s : State) : Touches [.clk, .mq, .tl, .pending, .draws] s (tick s) := by
  unfold tick
  split
  · exact .refl
  · exact Touches.after (.write (bs := [.pending, .draws])) ((settleLines_touches _ _).after
      (Touches.write (bs := [.clk])).within)

/-! ### Every row -/

theorem inputsInv_next {t u : State} (h : InputsInv t) (stepped : (Host.Outcome.next t : Outcome) = .next u) :
    InputsInv u := by
  cases stepped
  exact h

theorem exec_inputs {s t : State} (c : Instr) (hs : InputsInv s) (h : exec c s = .next t) : InputsInv t := by
  cases c with
  | stationSecondBoundary => exact inputsInv_next (inputsInv_of_touches hs (stationBoundary_touches s)) h
  | secOutPulseEnd => exact inputsInv_next (inputsInv_of_touches hs (endPulse_touches s)) h
  | elapsedTenth => exact inputsInv_next (inputsInv_of_touches hs (takeTenth_touches s)) h
  | fibrePhaseEdge change => exact inputsInv_next ((fibreEdge_leavesInputs change s).keeps hs) h
  | patternTimeout => exact inputsInv_next (inputsInv_of_touches hs (expirePattern_touches s)) h
  | patternComplete => exact inputsInv_next (inputsInv_of_touches hs (completePattern_touches s)) h
  | markSilenceExpiry => exact inputsInv_next (inputsInv_of_touches hs (expireSilence_touches s)) h
  | holdoverGrowth => exact inputsInv_next (inputsInv_of_touches hs (growHoldover_touches s)) h
  | fibrePresenceExpiry => exact inputsInv_next (inputsInv_of_touches hs (expireFibrePresence_touches s)) h
  | peerPresenceExpiry => exact inputsInv_next (inputsInv_of_touches hs (expirePeerPresence_touches s)) h
  | readClock p args => exact inputsInv_next (carryOut_reads_inputs hs) h
  | setClock p args => exact inputsInv_next (carryOut_leavesInputs (setClock_leavesInputs p args) hs) h
  | setDate p args => exact inputsInv_next (carryOut_leavesInputs (setDate_leavesInputs p args) hs) h
  | readSource p args => exact inputsInv_next (carryOut_reads_inputs hs) h
  | rearmSource p args => exact inputsInv_next (carryOut_leavesInputs rearmSource_leavesInputs hs) h
  | setMarkWindow p args => exact inputsInv_next (carryOut_leavesInputs (setMarkWindow_leavesInputs p args) hs) h
  | setLineMarks p args => exact inputsInv_next (carryOut_leavesInputs (setLineMarks_leavesInputs p args) hs) h
  | telegramJudged bits => exact inputsInv_next (inputsInv_of_touches hs (receiveTelegram_touches bits s)) h
  | brokenStartBit => exact inputsInv_next (inputsInv_of_touches hs (breakStart_touches s)) h
  | telegramSent => exact inputsInv_next (inputsInv_of_touches hs (completeSend_touches s)) h
  | arbitrationLoss => exact inputsInv_next (inputsInv_of_touches hs (loseArbitration_touches s)) h
  | idClash => exact inputsInv_next (inputsInv_of_touches hs (clashId_touches s)) h
  | sendFault => exact inputsInv_next (inputsInv_of_touches hs (failSend_touches s)) h
  | setLineRole p args => exact inputsInv_next (carryOut_leavesInputs (setLineRole_leavesInputs p args) hs) h
  | setLine p args => exact inputsInv_next (carryOut_leavesInputs (setLine_leavesInputs p args) hs) h
  | readLine p args => exact inputsInv_next (carryOut_leavesInputs (readLine_leavesInputs args) hs) h
  | tripLeadingEdge k => exact inputsInv_next (leadingEdge_inputs hs) h
  | tripTrailingEdge k => exact inputsInv_next (trailingEdge_inputs hs) h
  | assertQualifies k => exact inputsInv_next (qualifyAssert_inputs hs) h
  | releaseQualifies k => exact inputsInv_next (qualifyRelease_inputs hs) h
  | allowInput p args => exact inputsInv_next (carryOut_inputs (fun _ => allowInput_inputs) hs) h
  | setInput p args => exact inputsInv_next (carryOut_inputs (fun _ => setInput_inputs) hs) h
  | setChatterInterval p args => exact inputsInv_next (carryOut_leavesInputs (setChatterInterval_leavesInputs p args) hs) h
  | readInputs p args => exact inputsInv_next (carryOut_reads_inputs hs) h
  | readInput p args => exact inputsInv_next (carryOut_touches_inputs (readInput_touches args) hs) h
  | readLog p args => exact inputsInv_next (carryOut_touches_inputs (readLog_touches p (argNumber args 0 1)) hs) h
  | seekLog p args =>
    exact inputsInv_next (carryOut_touches_inputs (seekLog_touches p (BitVec.ofNat 16 (argNumber args 0 2))) hs) h
  | readLogState p args => exact inputsInv_next (carryOut_reads_inputs hs) h
  | firstOutWindowClose => exact inputsInv_next (inputsInv_of_touches hs (closeWindow_touches s)) h
  | burstGapExpiry => exact inputsInv_next (inputsInv_of_touches hs (judgeGap_touches s)) h
  | ackBurst p args =>
    exact inputsInv_next (carryOut_touches_inputs (ackBurst_touches p (BitVec.ofNat 16 (argNumber args 0 2))) hs) h
  | listBursts p args => exact inputsInv_next (carryOut_reads_inputs hs) h
  | readBurst p args =>
    exact inputsInv_next (carryOut_touches_inputs (readBurst_touches (BitVec.ofNat 16 (argNumber args 0 2))) hs) h
  | setFilter p args => exact inputsInv_next (carryOut_leavesInputs (setFilter_leavesInputs p args) hs) h
  | setBurstGap p args => exact inputsInv_next (carryOut_leavesInputs (setBurstGap_leavesInputs p args) hs) h
  | readFilters p args => exact inputsInv_next (carryOut_reads_inputs hs) h
  | unitCodeChange u code => exact inputsInv_next ((changeCode_leavesInputs u code s).keeps hs) h
  | settleExpiry u => exact inputsInv_next (inputsInv_of_touches hs (expireSettle_touches u s)) h
  | setModeTable p args => exact inputsInv_next (carryOut_leavesInputs (setModeTable_leavesInputs p args) hs) h
  | setUnits p args => exact inputsInv_next (carryOut_leavesInputs (setUnits_leavesInputs p args) hs) h
  | setServiceLimit p args => exact inputsInv_next (carryOut_leavesInputs (setServiceLimit_leavesInputs p args) hs) h
  | presetTally p args => exact inputsInv_next (carryOut_touches_inputs (presetTally_touches p args) hs) h
  | readUnit p args => exact inputsInv_next (carryOut_touches_inputs (readUnit_touches args) hs) h
  | readUnits p args => exact inputsInv_next (carryOut_reads_inputs hs) h
  | readModeTable p args => exact inputsInv_next (carryOut_reads_inputs hs) h
  | programEnd verified => exact inputsInv_next (inputsInv_of_touches hs (endProgram_touches verified s)) h
  | intervalTimerExpiry => exact inputsInv_next (inputsInv_of_touches hs (expireInterval_touches s)) h
  | hourlyTimerExpiry => exact inputsInv_next (inputsInv_of_touches hs (expireHourly_touches s)) h
  | setCommitInterval p args => exact inputsInv_next (carryOut_leavesInputs (setCommitInterval_leavesInputs p args) hs) h
  | readStore p args => exact inputsInv_next (carryOut_reads_inputs hs) h
  | warningEntry => exact inputsInv_next ((warningFall_leavesInputs s).keeps hs) h
  | supplyRestoreRise => exact inputsInv_next ((restoreRises_leavesInputs s).keeps hs) h
  | supplyRestoreFall => exact inputsInv_next ((restoreFalls_leavesInputs s).keeps hs) h
  | returnToNormal => exact inputsInv_next ((returnToNormal_leavesInputs s).keeps hs) h
  | retainEntry => exact inputsInv_next (lowFall_inputs hs) h
  | warmStart => exact inputsInv_next (warmStart_inputs hs) h
  | backupCellLost => exact inputsInv_next (loseCell_inputs hs) h
  | coldStart => exact inputsInv_next (powerUp_inputs hs) h
  | handoverWindowExpiry => exact inputsInv_next (inputsInv_of_touches hs (judgeWindow_touches s)) h
  | bellPulseEnd => exact inputsInv_next (inputsInv_of_touches hs (endBell_touches s)) h
  | openHandover p args => exact inputsInv_next (carryOut_touches_inputs (openHandover_touches p) hs) h
  | releaseShift p args => exact inputsInv_next (carryOut_touches_inputs (releaseShift_touches p) hs) h
  | acceptShift p args => exact inputsInv_next (carryOut_touches_inputs (acceptShift_touches p (argNumber args 0 1)) hs) h
  | forceHandover p args => exact inputsInv_next (carryOut_touches_inputs (forceHandover_touches p (argNumber args 0 1)) hs) h
  | cancelHandover p args => exact inputsInv_next (carryOut_touches_inputs cancelHandover_touches hs) h
  | setSchedule p args => exact inputsInv_next (carryOut_leavesInputs (setSchedule_leavesInputs p args) hs) h
  | setShiftTimes p args => exact inputsInv_next (carryOut_leavesInputs (setShiftTimes_leavesInputs p args) hs) h
  | readShift p args => exact inputsInv_next (carryOut_reads_inputs hs) h
  | readShiftRecord p args => exact inputsInv_next (carryOut_touches_inputs (readShiftRecord_touches (argNumber args 0 2)) hs) h
  | fetch p lengthByte clocked => exact inputsInv_next (inputsInv_of_touches hs (fetchFrame_touches p lengthByte _ s)) h
  | brokenFrame p edges bytes => exact inputsInv_next (inputsInv_of_touches hs (brokenFrame_touches p _ s)) h
  | unknownCommand p code args => exact inputsInv_next (inputsInv_of_touches hs (unknownCommand_touches p code args s)) h
  | saveSettings p args => exact inputsInv_next (inputsInv_of_touches hs (saveSettings_touches p args s)) h
  | readPorts p args => exact inputsInv_next (carryOut_reads_inputs hs) h
  | lockGroup p args => exact inputsInv_next (carryOut_touches_inputs (lockGroup_touches p args) hs) h
  | unlockGroup p args => exact inputsInv_next (carryOut_touches_inputs (unlockGroup_touches p args) hs) h
  | lineReset => exact inputsInv_next ((lineReset_leavesInputs s).keeps hs) h
  | resetNRise => exact inputsInv_next (LeavesInputs.keeps (t := resetRises s) ⟨rfl, rfl, rfl, id⟩ hs) h
  | clearNotices p args => exact inputsInv_next (carryOut_touches_inputs (clearNotices_touches p args) hs) h
  | holdoffExpiry p => exact inputsInv_next (inputsInv_of_touches hs (expireHoldoff_touches p s)) h
  | setNotices p args => exact inputsInv_next (carryOut_leavesInputs (setNotices_leavesInputs p args) hs) h
  | readNotices p args => exact inputsInv_next (carryOut_touches_inputs (readNotices_touches args) hs) h
  | startEdge => exact inputsInv_next ((fallLine_leavesInputs s).keeps hs) h
  | timeLineRise => exact inputsInv_next ((raiseLine_leavesInputs s).keeps hs) h
  | selectFall p => exact inputsInv_next (inputsInv_of_touches hs (selectFalls_touches p s)) h

/-- Settles O7: each row keeps the inputs safe, and so does a period in which no command waits. -/
theorem everyStepKeepsTheInputsSafe : Obligations.EveryStepKeepsTheInputsSafe := by
  unfold Obligations.EveryStepKeepsTheInputsSafe
  intro s t hs stepped
  unfold step at stepped
  split at stepped
  next => exact inputsInv_next (inputsInv_of_touches hs (tick_touches s)) stepped
  next c rest _ =>
    have popped : InputsInv { s with pending := rest } := inputsInv_of_touches (bs := [.pending]) hs .write
    exact exec_inputs c popped stepped

end Sys2Proof.Machine.InputLaws
end

section
/-! SUPPORT. Notices posted (R201), and what an entry that joins the ring leaves of the log (R84 to R86). -/

namespace Sys2Proof.Machine.InputLaws

set_option Elab.async false

/-! ### States that agree -/

/-- A state is given by its blocks. -/
theorem eq_of_same {s t : State} (h : ∀ b : Block, b.Same s t) : t = s := by
  cases s
  cases t
  simp only [State.mk.injEq]
  exact ⟨h .clk, h .mq, h .tl, h .inputs, h .log, h .bursts, h .units, h .store, h .supply, h .shift, h .ports, h .settings,
    h .locks, h .notices, h .pins, h .pending, h .draws⟩

/-- What touches the blocks `bs` alone makes `s` with those blocks. -/
theorem eq_copies_of_touches {bs : List Block} {s t : State} (h : Touches bs s t) : t = copies t bs s := by
  refine eq_of_same fun b => ?_
  by_cases touched : b ∈ bs
  · have named : decide (b ∈ bs) = true := decide_eq_true touched
    cases b <;> simp only [Block.Same, copies, named, cond_true]
  · have unnamed : decide (b ∈ bs) = false := decide_eq_false touched
    have same := h b touched
    cases b <;> simpa only [Block.Same, copies, unnamed, cond_false] using same

/-! ### Notices (R200, R201) -/

theorem hasKind_or_bit (x : BitVec 21) (k : NoticeKind) : hasKind (x ||| k.bit) k = true := by
  have own : hasKind k.bit k = true := by cases k <;> decide
  rw [hasKind, BitVec.getLsbD_or]
  exact Bool.or_eq_true_iff.2 (.inr own)

theorem hasKind_or {x : BitVec 21} (y : BitVec 21) {k : NoticeKind} (h : hasKind x k = true) : hasKind (x ||| y) k = true := by
  rw [hasKind, BitVec.getLsbD_or]
  exact Bool.or_eq_true_iff.2 (.inl h)

/-- A posting to one port in a part that works adds the kind to the port's pending set when its enable set holds it. -/
theorem postTo_notices (k : NoticeKind) (p : Port) (s : State) :
    (postTo k p s).notices =
      if working s = true ∧ hasKind (s.settings.notice.get p).enable k = true then
        s.notices.set p { s.notices.get p with pending := (s.notices.get p).pending ||| k.bit }.refresh
      else s.notices := by
  unfold postTo
  cases works : working s
  · simp
  · cases enabled : hasKind (s.settings.notice.get p).enable k
    · simp
    · simp

theorem postTo_keeps_pending {k l : NoticeKind} {p q : Port} {s : State} (h : hasKind (s.notices.get q).pending l = true) :
    hasKind ((postTo k p s).notices.get q).pending l = true := by
  rw [postTo_notices]
  split
  · by_cases own : p = q
    · subst own
      rw [PerPort.get_set_same]
      exact hasKind_or _ h
    · rwa [PerPort.get_set_other _ _ _ _ own]
  · exact h

theorem postTo_posts {k : NoticeKind} {p : Port} {s : State} (works : working s = true)
    (enabled : hasKind (s.settings.notice.get p).enable k = true) :
    hasKind ((postTo k p s).notices.get p).pending k = true := by
  rw [postTo_notices, if_pos ⟨works, enabled⟩, PerPort.get_set_same]
  exact hasKind_or_bit _ k

/-- A kind posted to every port is pending at each that enables it. -/
theorem post_posts {k : NoticeKind} {q : Port} {s : State} (works : working s = true)
    (enabled : hasKind (s.settings.notice.get q).enable k = true) : hasKind ((post k s).notices.get q).pending k = true := by
  have worksOn : ∀ p u, working u = true → working (postTo k p u) = true := fun p u h =>
    (working_congr ((postTo_touches k p u).same .supply)).trans h
  have settings : ∀ p u, (postTo k p u).settings = u.settings := fun p u => (postTo_touches k p u).same .settings
  show hasKind ((postTo k .c (postTo k .b (postTo k .a s))).notices.get q).pending k = true
  cases q with
  | a => exact postTo_keeps_pending (postTo_keeps_pending (postTo_posts works enabled))
  | b => exact postTo_keeps_pending (postTo_posts (worksOn _ _ works) (by rwa [settings]))
  | c => exact postTo_posts (worksOn _ _ (worksOn _ _ works)) (by rwa [settings, settings])

/-! ### The ring (R84 to R86) -/

/-- What the cursor of a port becomes depends on the log alone. -/
theorem moveCursor_log (n : BitVec 16) (s : State) (p : Port) :
    (moveCursor n s p).log =
      if s.log.cursors.get p = n then
        { s.log with cursors := s.log.cursors.set p (n + 1), missed := s.log.missed.set p (satSucc top16 (s.log.missed.get p)) }
      else s.log := by
  unfold moveCursor
  split
  · exact (postTo_touches _ _ _).same .log
  · rfl

theorem moveCursor_ring (n : BitVec 16) (s : State) (p : Port) : (moveCursor n s p).log.ring = s.log.ring := by
  rw [moveCursor_log]
  split <;> rfl

theorem moveCursor_nextSeq (n : BitVec 16) (s : State) (p : Port) : (moveCursor n s p).log.nextSeq = s.log.nextSeq := by
  rw [moveCursor_log]
  split <;> rfl

theorem moveCursor_log_congr {n : BitVec 16} {s t : State} {p : Port} (h : t.log = s.log) :
    (moveCursor n t p).log = (moveCursor n s p).log := by rw [moveCursor_log, moveCursor_log, h]

theorem flagLost_log (e : LogEntry) (s : State) : (flagLost e s).log = s.log := (flagLost_touches e s).same .log

/-- The removal flags records and changes nothing else of the Burst Table. -/
theorem flagLost_bursts (e : LogEntry) (s : State) :
    (flagLost e s).bursts = { s.bursts with records := (flagLost e s).bursts.records } := by
  unfold flagLost
  split <;> rfl

theorem removeOldest_nextSeq (s : State) : (removeOldest s).log.nextSeq = s.log.nextSeq := by
  unfold removeOldest
  split
  · rfl
  · split
    · rfl
    · dsimp only
      rw [moveCursor_nextSeq, moveCursor_nextSeq, moveCursor_nextSeq, flagLost_log]

theorem removeOldest_log_congr {s t : State} (h : t.log = s.log) : (removeOldest t).log = (removeOldest s).log := by
  unfold removeOldest
  rw [h]
  split
  · exact h
  · split
    · exact h
    · refine moveCursor_log_congr (moveCursor_log_congr (moveCursor_log_congr ?_))
      rw [flagLost_log, flagLost_log]

theorem removeOldest_bursts (s : State) :
    (removeOldest s).bursts = { s.bursts with records := (removeOldest s).bursts.records } := by
  have moved : ∀ n u p, (moveCursor n u p).bursts = u.bursts := fun n u p => (moveCursor_touches n u p).same .bursts
  unfold removeOldest
  split
  · rfl
  · split
    · rfl
    · dsimp only
      rw [moved, moved, moved]
      exact flagLost_bursts _ _

theorem removeOldest_shift (s : State) : (removeOldest s).shift = s.shift := (removeOldest_touches s).same .shift

/-! ### An entry made (R84) -/

theorem makeEntry_nextSeq (b : EntryBody) (x : FullStamp) (s : State) :
    (makeEntry b x s).log.nextSeq = s.log.nextSeq + 1 := congrArg (· + 1) (removeOldest_nextSeq s)

theorem makeEntry_getLast (b : EntryBody) (x : FullStamp) (s : State) :
    (makeEntry b x s).log.ring.getLast? =
      some { seq := s.log.nextSeq, stamp := x, shift := s.shift.current.number, body := b } := by
  rw [← removeOldest_nextSeq s, ← removeOldest_shift s]
  exact List.getLast?_concat

theorem makeEntry_bursts (b : EntryBody) (x : FullStamp) (s : State) :
    (makeEntry b x s).bursts = { s.bursts with records := (makeEntry b x s).bursts.records } := removeOldest_bursts s

/-- The log that an entry makes depends on the log and the current shift. -/
theorem makeEntry_log_congr {b : EntryBody} {x : FullStamp} {s t : State} (log : t.log = s.log) (shift : t.shift = s.shift) :
    (makeEntry b x t).log = (makeEntry b x s).log := by
  have removed := removeOldest_log_congr log
  have number : (removeOldest t).shift = (removeOldest s).shift := by rw [removeOldest_shift, removeOldest_shift, shift]
  simp only [makeEntry, joinRing, takeSeq, removed, number]

end Sys2Proof.Machine.InputLaws
end

section
/-! PROOF. A trip line's edges move its input by its state, and score its glitches (O40). -/

namespace Sys2Proof.Machine.InputLaws

set_option Elab.async false

/-! ### The line and the edge (R65) -/

theorem activeUnder_eq_bne (x : InputSetting) (b : Bool) : activeUnder x b = (b != x.activeLow) := by
  cases low : x.activeLow <;> cases b <;> simp [activeUnder, low]

/-- The line at the active or inactive level of its input, in the terms of the claim. -/
theorem moveTripLine_eq (s : State) (i : Fin 16) (b : Bool) :
    moveTripLine s i b = { s with pins := { s.pins with
      tripIn := setBit s.pins.tripIn i.val (b != (s.settings.inputs.inputs.get i).activeLow) } } := by
  rw [← activeUnder_eq_bne]
  rfl

section
variable {i : Fin 16} {s : State}

theorem exec_tripLeadingEdge (inactive : inputActive s i = false) :
    exec (.tripLeadingEdge i) s =
      .next (if working s then takeLeading i (moveTripLine s i true) else moveTripLine s i true) :=
  congrArg Host.Outcome.next (if_neg (Bool.eq_false_iff.1 inactive))

theorem exec_tripTrailingEdge (active : inputActive s i = true) :
    exec (.tripTrailingEdge i) s =
      .next (if working s then takeTrailing i (moveTripLine s i false) else moveTripLine s i false) :=
  congrArg Host.Outcome.next (if_neg (by rw [active]; decide))

/-! ### What an input makes of an edge (R66 to R68) -/

theorem takeLeading_idle (state : (s.inputs.get i).state = .idle) :
    takeLeading i s = s.withInput i { s.inputs.get i with state := .qualifying, capture := some (captureEdge i s) } := by
  simp only [takeLeading, state]

theorem takeLeading_releasing (state : (s.inputs.get i).state = .releasing) :
    takeLeading i s = s.withInput i { s.inputs.get i with state := .active, capture := none } := by
  simp only [takeLeading, state]

theorem takeLeading_unwatched (state : (s.inputs.get i).state = .blocked ∨ (s.inputs.get i).state = .disabled) :
    takeLeading i s = s := by
  rcases state with state | state <;> simp only [takeLeading, state]

theorem takeTrailing_active (state : (s.inputs.get i).state = .active) :
    takeTrailing i s = s.withInput i { s.inputs.get i with state := .releasing, capture := some (captureEdge i s) } := by
  simp only [takeTrailing, state]

theorem takeTrailing_qualifying (state : (s.inputs.get i).state = .qualifying) :
    takeTrailing i s = scoreInput i (satSucc chatterTop (s.inputs.get i).score) .idle s := by
  simp only [takeTrailing, state]

theorem takeTrailing_unwatched (state : (s.inputs.get i).state = .blocked ∨ (s.inputs.get i).state = .disabled) :
    takeTrailing i s = s := by
  rcases state with state | state <;> simp only [takeTrailing, state]

/-! ### The score (R71, R72) -/

theorem scoreInput_below {score : Nat} {below : InputState} (h : score < chatterTop) :
    scoreInput i score below s =
      s.withInput i { s.inputs.get i with score := score, capture := none, state := below } := if_neg (by omega)

/-- The top of the score blocks the input, with an entry and a notice (R72). -/
theorem scoreInput_top {score : Nat} {below : InputState} (h : chatterTop ≤ score) :
    scoreInput i score below s =
      post .chatterBlock (makeEntry (.chatterBlock i (s.settings.inputs.inputs.get i).unit) (stampNow s)
        (s.withInput i (scoredInput (s.inputs.get i) score below))) := by
  refine (if_pos h).trans ?_
  simp only [blockInput, Bank.get_set_same, State.withInput, Bank.set_set, scoredInput, if_pos h]
  rfl

theorem post_log (k : NoticeKind) (s : State) : (post k s).log = s.log := (post_touches k s).same .log

theorem post_bursts (k : NoticeKind) (s : State) : (post k s).bursts = s.bursts := (post_touches k s).same .bursts

end

/-- The entry, the notice and the frame of an input that the top of the score blocks (R71, R72). -/
theorem scoreInput_blocks {i : Fin 16} {score : Nat} {below : InputState} {s : State} (h : chatterTop ≤ score) :
    let body : EntryBody := .chatterBlock i (s.settings.inputs.inputs.get i).unit
    let t := scoreInput i score below s
    t.log = (makeEntry body (stampNow s) s).log ∧ t.log.nextSeq = s.log.nextSeq + 1
      ∧ t.log.ring.getLast? =
          some { seq := s.log.nextSeq, stamp := stampNow s, shift := s.shift.current.number, body := body }
      ∧ t.bursts = { s.bursts with records := t.bursts.records } := by
  dsimp only
  rw [scoreInput_top h, post_log, post_bursts]
  exact ⟨makeEntry_log_congr rfl rfl, makeEntry_nextSeq _ _ _, makeEntry_getLast _ _ _, makeEntry_bursts _ _ _⟩

/-- The notice reaches every port that enables it (R72, R201). -/
theorem scoreInput_posts {i : Fin 16} {score : Nat} {below : InputState} {s : State} {q : Port} (h : chatterTop ≤ score)
    (works : working s = true) (enabled : hasKind (s.settings.notice.get q).enable .chatterBlock = true) :
    hasKind ((scoreInput i score below s).notices.get q).pending .chatterBlock = true := by
  rw [scoreInput_top h]
  generalize made : makeEntry _ _ (s.withInput i _) = t
  have touched := makeEntry_touches (.chatterBlock i (s.settings.inputs.inputs.get i).unit) (stampNow s)
    (s.withInput i (scoredInput (s.inputs.get i) score below))
  rw [made] at touched
  refine post_posts ((working_congr (touched.same .supply)).trans works) ?_
  have settings : t.settings = s.settings := touched.same .settings
  rwa [settings]

/-- Settles O40, by whether the part works and the state of the input. -/
theorem tripEdgesMoveTheInput : Obligations.TripEdgesMoveTheInput := by
  unfold Obligations.TripEdgesMoveTheInput
  intro i s
  dsimp only
  refine ⟨fun inactive => ?_, fun active => ?_⟩
  · rw [exec_tripLeadingEdge inactive, ← moveTripLine_eq]
    refine ⟨fun works idle => ?_, fun works releasing => ?_, fun unwatched => ?_⟩
    · rw [if_pos works, takeLeading_idle (s := moveTripLine s i true) idle]
      rfl
    · rw [if_pos works, takeLeading_releasing (s := moveTripLine s i true) releasing]
      rfl
    · split
      next works =>
        refine congrArg Host.Outcome.next (takeLeading_unwatched (s := moveTripLine s i true) ?_)
        exact unwatched.resolve_left (by rw [works]; decide)
      next => rfl
  · rw [exec_tripTrailingEdge active, ← moveTripLine_eq]
    refine ⟨fun works state => ?_, fun works state low => ?_, fun works state high top => ?_, fun unwatched => ?_⟩
    · rw [if_pos works, takeTrailing_active (s := moveTripLine s i false) state]
      rfl
    · have raised : satSucc chatterTop (s.inputs.get i).score = (s.inputs.get i).score + 1 :=
        if_pos (by unfold chatterTop; omega)
      rw [if_pos works, takeTrailing_qualifying (s := moveTripLine s i false) state]
      refine congrArg Host.Outcome.next ((scoreInput_below ?_).trans ?_)
      · show satSucc chatterTop (s.inputs.get i).score < chatterTop
        rw [raised]
        unfold chatterTop
        omega
      · rw [← raised]
        rfl
    · have raised : satSucc chatterTop (s.inputs.get i).score = chatterTop := by
        unfold satSucc chatterTop
        split <;> omega
      rw [if_pos works, takeTrailing_qualifying (s := moveTripLine s i false) state]
      refine ⟨_, rfl, ?_⟩
      have scored : satSucc chatterTop ((moveTripLine s i false).inputs.get i).score = chatterTop := raised
      rw [scored]
      obtain ⟨log, next, last, bursts⟩ := scoreInput_blocks (i := i) (below := .idle) (s := moveTripLine s i false)
        (Nat.le_refl chatterTop)
      refine ⟨scoreInput_inputs _ _ _ _, ?_, next, last, fun q enabled => scoreInput_posts (Nat.le_refl _) works enabled,
        bursts, ?_⟩
      · exact log.trans (makeEntry_log_congr rfl rfl)
      · rw [← activeUnder_eq_bne]
        exact eq_copies_of_touches (scoreInput_touches i chatterTop .idle (moveTripLine s i false))
    · split
      next works =>
        refine congrArg Host.Outcome.next (takeTrailing_unwatched (s := moveTripLine s i false) ?_)
        exact unwatched.resolve_left (by rw [works]; decide)
      next => rfl

end Sys2Proof.Machine.InputLaws
end

section
/-! SUPPORT. What an assert makes of the part (R92 to R94, R100, R101): the hold count rises or stands, so that no handover is
completed; a fault trip is counted and its record requested; the log is not read. -/

namespace Sys2Proof.Machine.InputLaws

set_option Elab.async false

/-! ### The hold count (R101) -/

/-- `s` with a hold count that has not fallen. -/
def raiseHold (n : Nat) (s : State) : State :=
  { s with
    bursts := { s.bursts with holdCount := n }
    shift := { s.shift with holdCount := if n = s.bursts.holdCount then s.shift.holdCount else n } }

/-- A hold count that does not fall completes no handover. -/
theorem setHoldCount_of_le {n : Nat} {s : State} (h : s.bursts.holdCount ≤ n) : setHoldCount n s = raiseHold n s := by
  unfold setHoldCount raiseHold
  by_cases same : n = s.bursts.holdCount
  · rw [if_pos same, if_pos same, same]
  · have rises : n ≠ 0 := by omega
    rw [if_neg same, if_neg same]
    simp [handHoldCount, rises]

/-- A record that counts in the hold count still counts after an assert. -/
theorem replaceRecord_of_holds {old new : BurstRecord} {s : State} (h : old.holds = true → new.holds = true) :
    replaceRecord old new s =
      raiseHold (s.bursts.holdCount + if new.holds && !old.holds then 1 else 0) { s with bursts := s.bursts.put new } := by
  have rise : s.bursts.holdCount + (if new.holds = true then 1 else 0) - (if old.holds = true then 1 else 0)
      = s.bursts.holdCount + if (new.holds && !old.holds) = true then 1 else 0 := by
    cases was : old.holds <;> cases is : new.holds <;> simp_all
  unfold replaceRecord
  dsimp only
  rw [rise]
  exact setHoldCount_of_le (Nat.le_add_right _ _)

/-! ### The filters (R98, R99) -/

theorem foldl_join (unit : UnitSel) (code : BitVec 6) (fs : List Filter) (x : Actions) :
    fs.foldl (fun a f => if f.accepts unit code then a.join f.actions else a) x =
      { faultTrip := x.faultTrip || fs.any fun f => f.accepts unit code && f.actions.faultTrip
        holdHandover := x.holdHandover || fs.any fun f => f.accepts unit code && f.actions.holdHandover
        notifyAll := x.notifyAll || fs.any fun f => f.accepts unit code && f.actions.notifyAll } := by
  induction fs generalizing x with
  | nil => simp
  | cons f fs ih =>
    rw [List.foldl_cons, ih]
    cases accepted : f.accepts unit code <;> simp [accepted, Actions.join, Bool.or_assoc]

/-- The actions that an assert brings: each that some matched filter has. -/
theorem matchedActions_eq (s : State) (unit : UnitSel) (code : BitVec 6) :
    matchedActions s unit code =
      { faultTrip := s.settings.inputs.filters.cells.any fun f => f.accepts unit code && f.actions.faultTrip
        holdHandover := s.settings.inputs.filters.cells.any fun f => f.accepts unit code && f.actions.holdHandover
        notifyAll := s.settings.inputs.filters.cells.any fun f => f.accepts unit code && f.actions.notifyAll } := by
  rw [matchedActions, foldl_join]
  rfl

/-! ### The records that an assert leaves (R93, R94, R103) -/

/-- An acknowledged OPEN record that an assert joins is reopened (R103). -/
def BurstRecord.reopens (r : BurstRecord) : Bool := decide (r.state = .opened) && r.ack.isSome

/-- The open record after a join (R94, R95, R103). -/
def joinedRecord (r : BurstRecord) (a : Assert) (s : State) : BurstRecord :=
  { r.takeAssert s a with
    lastJoin := now s
    firstOut := if r.state = .forming ∧ a.member.earlier r.firstOut = true then a.member else r.firstOut
    ack := if BurstRecord.reopens r then none else r.ack }

/-- The newest record after an overflow join (R93). -/
def overflowRecord (r : BurstRecord) (a : Assert) (s : State) : BurstRecord :=
  { r.takeAssert s a with overflowJoined := true }

/-- The record that an assert opens (R92). -/
def openedRecord (number : BitVec 16) (a : Assert) (s : State) : BurstRecord :=
  { number := number, state := .forming, ack := none, shift := a.shift, opening := now s, lastJoin := now s,
    firstOut := a.member, asserts := 1, units := unitBit a.unit, actions := matchedActions s a.unit a.code,
    counted := countedAfter s a 0, lostEntries := false, overflowJoined := false }

theorem joinedRecord_holds {r : BurstRecord} {a : Assert} {s : State} (h : r.holds = true) :
    (joinedRecord r a s).holds = true := by
  simp only [BurstRecord.holds, Bool.and_eq_true] at h
  obtain ⟨unacknowledged, holding⟩ := h
  have free : r.ack = none := by simpa using unacknowledged
  simp [BurstRecord.holds, joinedRecord, BurstRecord.takeAssert, Actions.join, free, holding]

theorem overflowRecord_holds {r : BurstRecord} {a : Assert} {s : State} (h : r.holds = true) :
    (overflowRecord r a s).holds = true := by
  simp only [BurstRecord.holds, Bool.and_eq_true] at h
  obtain ⟨unacknowledged, holding⟩ := h
  simp [BurstRecord.holds, overflowRecord, BurstRecord.takeAssert, Actions.join, unacknowledged, holding]

/-- The Burst Table with the record `new` in the place of `old`, and the hold count as it then stands. -/
def putRecord (old new : BurstRecord) (s : State) : State :=
  raiseHold (s.bursts.holdCount + if new.holds && !old.holds then 1 else 0) { s with bursts := s.bursts.put new }

theorem joinOpen_eq (r : BurstRecord) (a : Assert) (s : State) :
    joinOpen r a s =
      let t := handFault (faultUnit s a r.counted) (putRecord r (joinedRecord r a s) s)
      if BurstRecord.reopens r then postBurst .burstReopened (joinedRecord r a s) t else t := by
  rw [putRecord, ← replaceRecord_of_holds joinedRecord_holds]
  rfl

theorem joinOverflow_eq (r : BurstRecord) (a : Assert) (s : State) :
    joinOverflow r a s =
      postBurst .burst (overflowRecord r a s) (handFault (faultUnit s a r.counted) (putRecord r (overflowRecord r a s) s)) := by
  rw [putRecord, ← replaceRecord_of_holds overflowRecord_holds]
  rfl

/-- The Burst Table with a new record among those kept. -/
def withRecord (kept : List BurstRecord) (r : BurstRecord) (s : State) : State :=
  { s with bursts := { s.bursts with
      records := kept ++ [r], openRef := some r.number, nextNumber := r.number + 1 } }

/-- The new record counted in the hold count and in the shift's summary. -/
def addRecord (kept : List BurstRecord) (r : BurstRecord) (s : State) : State :=
  countBurst (raiseHold (s.bursts.holdCount + if r.holds then 1 else 0) (withRecord kept r s))

theorem openBurst_eq (kept : List BurstRecord) (a : Assert) (s : State) :
    openBurst kept a s =
      handFault (faultUnit s a 0)
        (addRecord kept (openedRecord (freeNumber kept 33 s.bursts.nextNumber) a s) s) := by
  have held (r : BurstRecord) :
      setHoldCount (s.bursts.holdCount + if r.holds then 1 else 0) (withRecord kept r s)
        = raiseHold (s.bursts.holdCount + if r.holds then 1 else 0) (withRecord kept r s) :=
    setHoldCount_of_le (Nat.le_add_right _ _)
  rw [addRecord, ← held]
  rfl

/-! ### A fault trip counted (R100, R122) -/

/-- A fault trip of a fitted unit, before its record is requested. -/
def countedFault (u : Fin 8) (s : State) : State := (countFault s).withUnit u ((s.units.get u).gain .faults)

theorem handFault_some (u : Fin 8) (s : State) :
    handFault (some u) s = if isFitted s u then request (.unit u) (countedFault u s) else s := rfl

/-- What a request starts has the ports as they were, but for what they are bound to (R195). -/
theorem startProgram_ports (s : State) (q : Port) :
    ∃ b, (startProgram s).ports.get q = { s.ports.get q with binding := b } := by
  have same : ∃ b, s.ports.get q = { s.ports.get q with binding := b } := ⟨(s.ports.get q).binding, rfl⟩
  unfold startProgram
  split
  · dsimp only
    split
    · have moved : ∀ c : PortCtl, ∃ b,
          (if c.binding = some .queued then { c with binding := some .program } else c) = { c with binding := b } := by
        intro c
        split
        · exact ⟨_, rfl⟩
        · exact ⟨c.binding, rfl⟩
      cases q
      · exact moved s.ports.a
      · exact moved s.ports.b
      · exact moved s.ports.c
    · exact same
  · exact same

theorem request_ports (r : RecordId) (s : State) (q : Port) :
    ∃ b, (request r s).ports.get q = { s.ports.get q with binding := b } := by
  have same : ∃ b, s.ports.get q = { s.ports.get q with binding := b } := ⟨(s.ports.get q).binding, rfl⟩
  unfold request
  split
  · exact same
  · split
    · exact same
    · exact startProgram_ports _ q

theorem handFault_ports (u : Option (Fin 8)) (s : State) (q : Port) :
    ∃ b, (handFault u s).ports.get q = { s.ports.get q with binding := b } := by
  have same : ∃ b, s.ports.get q = { s.ports.get q with binding := b } := ⟨(s.ports.get q).binding, rfl⟩
  cases u with
  | none => exact same
  | some u =>
    rw [handFault_some]
    split
    · exact request_ports _ (countedFault u s) q
    · exact same

/-- A fault trip moves the faults of the shift's summary, a unit, the store and the bindings of the ports. -/
theorem handFault_eq (u : Option (Fin 8)) (s : State) :
    handFault u s =
      { s with
        units := (handFault u s).units, store := (handFault u s).store, ports := (handFault u s).ports
        shift := { s.shift with current := { s.shift.current with summary := { s.shift.current.summary with
          faults := (handFault u s).shift.current.summary.faults } } } } := by
  cases u with
  | none => rfl
  | some u =>
    rw [handFault_some]
    split
    · refine (eq_copies_of_touches (request_touches (.unit u) (countedFault u s))).trans ?_
      have shift : (request (.unit u) (countedFault u s)).shift = (countedFault u s).shift :=
        (request_touches _ _).same .shift
      have units : (request (.unit u) (countedFault u s)).units = (countedFault u s).units :=
        (request_touches _ _).same .units
      rw [shift, units]
      rfl
    · rfl

/-! ### The log is not read -/

/-- `s` with the log `l`. -/
def putLog (l : TripLog) (s : State) : State := { s with log := l }

theorem postTo_putLog (k : NoticeKind) (p : Port) (l : TripLog) (s : State) :
    postTo k p (putLog l s) = putLog l (postTo k p s) := by
  have works : working (putLog l s) = working s := rfl
  have enabled : (putLog l s).settings = s.settings := rfl
  unfold postTo
  rw [works, enabled]
  split
  · rfl
  · split <;> rfl

theorem postBurst_putLog (k : NoticeKind) (r : BurstRecord) (l : TripLog) (s : State) :
    postBurst k r (putLog l s) = putLog l (postBurst k r s) := by
  have offered : ∀ (p : Port) (t : State),
      (if reachesPort (putLog l s) r p = true then postTo k p (putLog l t) else putLog l t)
        = putLog l (if reachesPort s r p = true then postTo k p t else t) := by
    intro p t
    have reach : reachesPort (putLog l s) r p = reachesPort s r p := rfl
    rw [reach, postTo_putLog]
    split <;> rfl
  unfold postBurst postWhere
  dsimp only
  rw [offered, offered, offered]

theorem startProgram_putLog (l : TripLog) (s : State) : startProgram (putLog l s) = putLog l (startProgram s) := by
  have works : working (putLog l s) = working s := rfl
  have store : (putLog l s).store = s.store := rfl
  unfold startProgram
  rw [works, store]
  split
  · dsimp only
    split <;> rfl
  · rfl

theorem request_putLog (r : RecordId) (l : TripLog) (s : State) : request r (putLog l s) = putLog l (request r s) := by
  have works : working (putLog l s) = working s := rfl
  have store : (putLog l s).store = s.store := rfl
  unfold request
  rw [works, store]
  split
  · rfl
  · split
    · rfl
    · exact startProgram_putLog l { s with store := { s.store with
        queue := s.store.queue ++ [{ record := r, emergency := false, retry := false }] } }

theorem handFault_putLog (u : Option (Fin 8)) (l : TripLog) (s : State) :
    handFault u (putLog l s) = putLog l (handFault u s) := by
  cases u with
  | none => rfl
  | some u =>
    have fitted : isFitted (putLog l s) u = isFitted s u := rfl
    rw [handFault_some, handFault_some, fitted]
    split
    · exact request_putLog _ _ (countedFault u s)
    · rfl

theorem joinOpen_putLog (r : BurstRecord) (a : Assert) (l : TripLog) (s : State) :
    joinOpen r a (putLog l s) = putLog l (joinOpen r a s) := by
  have counted := handFault_putLog (faultUnit s a r.counted) l (putRecord r (joinedRecord r a s) s)
  rw [joinOpen_eq, joinOpen_eq]
  dsimp only
  split
  · exact (congrArg (postBurst .burstReopened (joinedRecord r a s)) counted).trans (postBurst_putLog _ _ _ _)
  · exact counted

theorem joinOverflow_putLog (r : BurstRecord) (a : Assert) (l : TripLog) (s : State) :
    joinOverflow r a (putLog l s) = putLog l (joinOverflow r a s) := by
  have counted := handFault_putLog (faultUnit s a r.counted) l (putRecord r (overflowRecord r a s) s)
  rw [joinOverflow_eq, joinOverflow_eq]
  exact (congrArg (postBurst .burst (overflowRecord r a s)) counted).trans (postBurst_putLog _ _ _ _)

theorem openBurst_putLog (kept : List BurstRecord) (a : Assert) (l : TripLog) (s : State) :
    openBurst kept a (putLog l s) = putLog l (openBurst kept a s) := by
  rw [openBurst_eq, openBurst_eq]
  exact handFault_putLog (faultUnit s a 0) l
    (addRecord kept (openedRecord (freeNumber kept 33 s.bursts.nextNumber) a s) s)

/-- The Burst Table takes an assert without a look at the log. -/
theorem takeAssert_putLog (a : Assert) (l : TripLog) (s : State) :
    takeAssert a (putLog l s) = ((takeAssert a s).1, putLog l (takeAssert a s).2) := by
  have bursts : (putLog l s).bursts = s.bursts := rfl
  unfold takeAssert
  rw [bursts]
  split
  · rw [joinOpen_putLog]
  · split
    · rw [openBurst_putLog]
    · split
      · rw [joinOverflow_putLog]
      · rfl

/-! ### Every assert -/

/-- What an assert can become of in the Burst Table (R92 to R94). -/
theorem takeAssert_cases (a : Assert) (s : State) :
    (∃ r, s.bursts.openRef.bind s.bursts.find = some r ∧ takeAssert a s = (r.number, joinOpen r a s))
      ∨ (∃ kept, s.bursts.openRef.bind s.bursts.find = none ∧ makePlace s.bursts.records = some kept
          ∧ takeAssert a s = (freeNumber kept 33 s.bursts.nextNumber, openBurst kept a s))
      ∨ (∃ r, s.bursts.openRef.bind s.bursts.find = none ∧ makePlace s.bursts.records = none
          ∧ s.bursts.records.getLast? = some r ∧ takeAssert a s = (r.number, joinOverflow r a s)) := by
  unfold takeAssert
  split
  next r found => exact .inl ⟨r, found, rfl⟩
  next absent =>
    split
    next kept place => exact .inr (.inl ⟨kept, absent, place, rfl⟩)
    next full =>
      split
      next r last => exact .inr (.inr ⟨r, absent, full, last, rfl⟩)
      next empty =>
        have none : s.bursts.records = [] := List.getLast?_eq_none_iff.1 empty
        rw [none] at full
        cases full

end Sys2Proof.Machine.InputLaws
end

section
/-! SUPPORT. A TRIP_ASSERT entry made (R84, R162): what it leaves of the log, of the shift and of the ports. -/

namespace Sys2Proof.Machine.InputLaws

set_option Elab.async false

/-! ### The shape of what is taken -/

/-- `s` with a Burst Table, a hold count and a number of bursts in the shift's summary. -/
def withTable (b : BurstTable) (hold bursts : Nat) (s : State) : State :=
  { s with
    bursts := b
    shift := { s.shift with
      holdCount := hold
      current := { s.shift.current with summary := { s.shift.current.summary with bursts := bursts } } } }

theorem postBurst_eq (k : NoticeKind) (r : BurstRecord) (s : State) :
    postBurst k r s = { s with notices := (postBurst k r s).notices } := eq_copies_of_touches (postBurst_touches k r s)

theorem mem_put {b : BurstTable} {old new : BurstRecord} (held : old ∈ b.records) (number : new.number = old.number) :
    new ∈ (b.put new).records := List.mem_map.2 ⟨old, held, if_pos number.symm⟩

theorem find_number {b : BurstTable} {n : BitVec 16} {r : BurstRecord} (h : b.find n = some r) :
    r ∈ b.records ∧ r.number = n :=
  by
  have bears := List.find?_some h
  exact ⟨List.mem_of_find?_eq_some h, of_decide_eq_true bears⟩

theorem openRef_number {s : State} {r : BurstRecord} (h : s.bursts.openRef.bind s.bursts.find = some r) :
    r ∈ s.bursts.records ∧ s.bursts.openRef = some r.number := by
  obtain ⟨n, ref, found⟩ := Option.bind_eq_some_iff.1 h
  obtain ⟨held, number⟩ := find_number found
  exact ⟨held, by rw [ref, number]⟩

theorem putRecord_shape (old new : BurstRecord) (s : State) :
    ∃ b hold, putRecord old new s = withTable b hold s.shift.current.summary.bursts s
      ∧ b.records = (s.bursts.put new).records := ⟨_, _, rfl, rfl⟩

theorem addRecord_shape (kept : List BurstRecord) (r : BurstRecord) (s : State) :
    ∃ b hold bursts, addRecord kept r s = withTable b hold bursts s ∧ b.records = kept ++ [r] := ⟨_, _, _, rfl, rfl⟩

/-- An assert taken is a table that holds a record of the number it gives, a fault trip handed on, and notices. -/
theorem takeAssert_shape (a : Assert) (s : State) :
    ∃ (b : BurstTable) (hold bursts : Nat) (u : Option (Fin 8)) (n : PerPort Notices),
      (takeAssert a s).2 = { handFault u (withTable b hold bursts s) with notices := n }
        ∧ ∃ r ∈ b.records, r.number = (takeAssert a s).1 := by
  rcases takeAssert_cases a s with ⟨r, found, taken⟩ | ⟨kept, _, _, taken⟩ | ⟨r, _, _, last, taken⟩
  · obtain ⟨b, hold, put, records⟩ := putRecord_shape r (joinedRecord r a s) s
    have held : joinedRecord r a s ∈ b.records := records ▸ mem_put (openRef_number found).1 rfl
    have state : ∃ n, joinOpen r a s = { handFault (faultUnit s a r.counted)
        (withTable b hold s.shift.current.summary.bursts s) with notices := n } := by
      rw [joinOpen_eq, put]
      dsimp only
      split
      · exact ⟨_, postBurst_eq _ _ _⟩
      · exact ⟨_, rfl⟩
    obtain ⟨n, state⟩ := state
    rw [taken]
    exact ⟨b, hold, _, _, n, state, _, held, rfl⟩
  · obtain ⟨b, hold, bursts, added, records⟩ :=
      addRecord_shape kept (openedRecord (freeNumber kept 33 s.bursts.nextNumber) a s) s
    rw [taken, openBurst_eq, added]
    exact ⟨b, hold, bursts, _, _, rfl, _, records ▸ List.mem_append_right kept (List.mem_singleton.2 rfl), rfl⟩
  · obtain ⟨b, hold, put, records⟩ := putRecord_shape r (overflowRecord r a s) s
    have held : overflowRecord r a s ∈ b.records := records ▸ mem_put (List.mem_of_getLast? last) rfl
    rw [taken, joinOverflow_eq, put]
    exact ⟨b, hold, _, _, _, postBurst_eq _ _ _, _, held, rfl⟩

/-- An assert taken moves the bursts and the faults of the shift's summary, and the hold count. -/
theorem takeAssert_current (a : Assert) (s : State) :
    let t := (takeAssert a s).2
    t.shift.current = { s.shift.current with summary := { s.shift.current.summary with
      bursts := t.shift.current.summary.bursts, faults := t.shift.current.summary.faults } } := by
  obtain ⟨b, hold, bursts, u, n, state, _⟩ := takeAssert_shape a s
  dsimp only
  rw [state, handFault_eq]
  rfl

theorem takeAssert_held (a : Assert) (s : State) :
    ∃ r ∈ (takeAssert a s).2.bursts.records, r.number = (takeAssert a s).1 := by
  obtain ⟨b, hold, bursts, u, n, state, r, held, number⟩ := takeAssert_shape a s
  refine ⟨r, ?_, number⟩
  rw [state, handFault_eq]
  exact held

theorem takeAssert_ports (a : Assert) (s : State) (q : Port) :
    ∃ x, (takeAssert a s).2.ports.get q = { s.ports.get q with binding := x } := by
  obtain ⟨b, hold, bursts, u, n, state, _⟩ := takeAssert_shape a s
  rw [state]
  exact handFault_ports u (withTable b hold bursts s) q

/-! ### The entry (R84) -/

/-- The assert of input `i` at a stamp, with the number that its entry takes (R84). -/
def assertOf (i : Fin 16) (x : FullStamp) (s : State) : Assert :=
  { input := i, unit := (s.settings.inputs.inputs.get i).unit, code := (s.settings.inputs.inputs.get i).code,
    stamp := x, seq := s.log.nextSeq, shift := s.shift.current.number }

/-- The TRIP_ASSERT entry of an assert that joined burst `number` (R84). -/
def assertEntry (i : Fin 16) (x : FullStamp) (resumed : Bool) (number : BitVec 16) (s : State) : LogEntry :=
  { seq := s.log.nextSeq, stamp := x, shift := s.shift.current.number,
    body := .tripAssert i (s.settings.inputs.inputs.get i).unit (s.settings.inputs.inputs.get i).code number resumed }

/-- The Burst Table takes the assert beside the ring, and the entry joins it with the number of the burst. -/
theorem makeAssert_eq (i : Fin 16) (x : FullStamp) (resumed : Bool) (s : State) :
    let taken := takeAssert (assertOf i x s) (removeOldest s)
    makeAssert i x resumed s =
      countAssert (putLog { (removeOldest s).log with
          nextSeq := s.log.nextSeq + 1
          ring := (removeOldest s).log.ring ++ [assertEntry i x resumed taken.1 s] } taken.2) := by
  have number := removeOldest_nextSeq s
  have shift := removeOldest_shift s
  have sought : takeSeq (removeOldest s)
      = putLog { (removeOldest s).log with nextSeq := s.log.nextSeq + 1 } (removeOldest s) := by
    rw [takeSeq, number]
    rfl
  unfold makeAssert
  dsimp only
  rw [sought, number, shift, takeAssert_putLog]
  rfl

end Sys2Proof.Machine.InputLaws
end

section
/-! PROOF. SET INPUT and ALLOW INPUT (O43): the arguments that name a setting, then what the command leaves. -/

namespace Sys2Proof.Machine.InputLaws

open LineLaws

set_option Elab.async false

/-! ### Arguments (R189, R211) -/

theorem indexOf_of_val {n k : Nat} {i : Fin n} (h : i.val = k) : indexOf n k = some i := by
  subst h
  exact dif_pos i.isLt

theorem indexOf_of_le {n k : Nat} (h : n ≤ k) : indexOf n k = none := dif_neg (by omega)

theorem yesNoOf_of_le {v : Nat} (h : v ≤ 1) : yesNoOf v = some (decide (v = 1)) := by
  have cases : v = 0 ∨ v = 1 := by omega
  rcases cases with rfl | rfl <;> rfl

theorem yesNoOf_of_ge {v : Nat} (h : 2 ≤ v) : yesNoOf v = none := by
  unfold yesNoOf
  split <;> first | omega | rfl

/-- A setting is given by values that all exist (R76). -/
theorem inputSettingOf_some {args : List Byte} {u : UnitSel} (enabled : argNumber args 1 1 ≤ 1)
    (polarity : argNumber args 2 1 ≤ 1) (unit : u.val = argNumber args 3 1) (code : argNumber args 4 1 < 64)
    (releases : argNumber args 6 1 ≤ 1) :
    inputSettingOf args = some
      { enabled := decide (argNumber args 1 1 = 1), activeLow := decide (argNumber args 2 1 = 1), unit := u,
        code := BitVec.ofNat 6 (argNumber args 4 1), tq := clampNat 1 255 (argNumber args 5 1),
        logReleases := decide (argNumber args 6 1 = 1) } := by
  have mask : maskOf 6 (argNumber args 4 1) = some (BitVec.ofNat 6 (argNumber args 4 1)) := if_pos code
  simp only [inputSettingOf, yesNoOf_of_le enabled, yesNoOf_of_le polarity, indexOf_of_val unit, mask,
    yesNoOf_of_le releases]

/-- A value that does not exist gives none (R76). -/
theorem inputSettingOf_none {args : List Byte}
    (h : 2 ≤ argNumber args 1 1 ∨ 2 ≤ argNumber args 2 1 ∨ 9 ≤ argNumber args 3 1 ∨ 64 ≤ argNumber args 4 1
      ∨ 2 ≤ argNumber args 6 1) : inputSettingOf args = none := by
  unfold inputSettingOf
  split
  next enabled polarity unit code releases =>
    exfalso
    rcases h with h | h | h | h | h
    · rw [yesNoOf_of_ge h] at enabled
      cases enabled
    · rw [yesNoOf_of_ge h] at polarity
      cases polarity
    · rw [indexOf_of_le h] at unit
      cases unit
    · rw [maskOf, if_neg (by omega)] at code
      cases code
    · rw [yesNoOf_of_ge h] at releases
      cases releases
  next => rfl

/-! ### SET INPUT (R74 to R76) -/

section
variable {p : Port} {args : List Byte} {s : State}

theorem setInput_refuses (h : indexOf 16 (argNumber args 0 1) = none ∨ inputSettingOf args = none) :
    setInput p args s = refuse .badArgument s := by
  unfold setInput
  split
  next index given =>
    rcases h with absent | absent
    · rw [absent] at index
      cases index
    · rw [absent] at given
      cases given
  next => rfl

theorem exec_setInput_refused (ready : Ready p s) (length : args.length = 7)
    (h : indexOf 16 (argNumber args 0 1) = none ∨ inputSettingOf args = none) :
    exec (.setInput p args) s = .next (refusedWith p .badArgument s) :=
  congrArg Host.Outcome.next (carryOut_refused ready (by omega) (by simp [fits, length]) (setInput_refuses h))

theorem exec_setInput {i : Fin 16} {fresh : InputSetting} (ready : Ready p s) (length : args.length = 7)
    (index : i.val = argNumber args 0 1) (given : inputSettingOf args = some fresh) :
    exec (.setInput p args) s =
      .next (ofGroup p .inputs (rangeStatus 1 255 (argNumber args 5 1)) s (giveSetting i fresh s)) := by
  refine congrArg Host.Outcome.next (carryOut_ofGroup ready (by omega) (by simp [fits, length])
    (setInput_eq (indexOf_of_val index) given) ?_ rfl)
  rw [clampedStatus_outside]
  rfl

/-! ### ALLOW INPUT (R73) -/

/-- A frame carried out with ports whose bindings alone moved has the answer of Safety (R184, R186, R195). -/
theorem answerPort_rebound {x : Status} {r : Result} {t : State}
    (h : ∃ b, t.ports.get p = { (endTransaction p s).ports.get p with binding := b }) :
    answerPort p x r t = answered p x r s t := by
  obtain ⟨b, moved⟩ := h
  simp only [answerPort, answered, answeredPort, moved, endTransaction_port]

theorem exec_allowInput (ready : Ready p s) (length : args.length = 1) :
    exec (.allowInput p args) s =
      .next (answerPort p (allowInput args (endTransaction p s)).status (allowInput args (endTransaction p s)).result
        (allowInput args (endTransaction p s)).state) := by
  have short : ¬ longestFrame < args.length := by
    unfold longestFrame
    omega
  have good : fits args 1 = true := by simp [fits, length]
  refine congrArg Host.Outcome.next ((atRise_ready ready _).trans ?_)
  simp only [if_neg short, good, Bool.true_eq_false, if_false]

theorem allowInput_blocked {i : Fin 16} (index : i.val = argNumber args 0 1) (state : (s.inputs.get i).state = .blocked) :
    allowInput args s =
      { state :=
          if inputActive s i then
            makeAssert i (stampNow s) true
              (s.withInput i { s.inputs.get i with state := .active, score := 0, lastAssert := some (now s) })
          else s.withInput i { s.inputs.get i with state := .idle, score := 0 }
        status := .done } := by
  simp only [allowInput, indexOf_of_val index, state, ne_eq, not_true_eq_false, if_false]

theorem makeAssert_nextSeq (i : Fin 16) (x : FullStamp) (resumed : Bool) (s : State) :
    (makeAssert i x resumed s).log.nextSeq = s.log.nextSeq + 1 := by
  rw [makeAssert_eq]
  rfl

theorem makeAssert_getLast (i : Fin 16) (x : FullStamp) (resumed : Bool) (s : State) :
    (makeAssert i x resumed s).log.ring.getLast? =
      some (assertEntry i x resumed (takeAssert (assertOf i x s) (removeOldest s)).1 s) := by
  rw [makeAssert_eq]
  exact List.getLast?_concat

theorem makeAssert_ports (i : Fin 16) (x : FullStamp) (resumed : Bool) (s : State) (q : Port) :
    ∃ b, (makeAssert i x resumed s).ports.get q = { s.ports.get q with binding := b } := by
  have ports : (removeOldest s).ports = s.ports := (removeOldest_touches s).same .ports
  rw [makeAssert_eq, ← ports]
  exact takeAssert_ports _ (removeOldest s) q

/-- An active input whose block ends asserts anew, marked resumed (R73). -/
theorem allowInput_resumes {i : Fin 16} (ready : Ready p s) (length : args.length = 1)
    (index : i.val = argNumber args 0 1) (state : (s.inputs.get i).state = .blocked) (active : inputActive s i = true) :
    exec (.allowInput p args) s = .next (answered p .done .empty s (makeAssert i (stampNow s) true
      ((endTransaction p s).withInput i
        { s.inputs.get i with state := .active, score := 0, lastAssert := some (now s) }))) := by
  have blocked := allowInput_blocked (s := endTransaction p s) index state
  rw [if_pos (show inputActive (endTransaction p s) i = true from active)] at blocked
  rw [exec_allowInput ready length, blocked]
  exact congrArg Host.Outcome.next (answerPort_rebound (makeAssert_ports _ _ _ _ p))

end

/-- Settles O43, by the values of the arguments, and for ALLOW INPUT by the state and the level of the input. -/
theorem inputSettingsAndBlocks : Obligations.InputSettingsAndBlocks := by
  unfold Obligations.InputSettingsAndBlocks
  refine ⟨fun p args s ready length => ⟨fun broken => ?_, ?_⟩, fun p args s ready length => ⟨fun index => ?_, ?_⟩⟩
  · refine exec_setInput_refused ready length ?_
    rcases broken with index | values
    · exact .inl (indexOf_of_le index)
    · exact .inr (inputSettingOf_none values)
  · intro i u index enabled polarity unit code releases
    exact exec_setInput ready length index (inputSettingOf_some enabled polarity unit code releases)
  · refine congrArg Host.Outcome.next (carryOut_refused ready (by omega) (by simp [fits, length]) ?_)
    simp only [allowInput, indexOf_of_le index]
  · intro i index
    refine ⟨fun other => ?_, fun state inactive => ?_, fun state active => ?_⟩
    · refine congrArg Host.Outcome.next (carryOut_refused ready (by omega) (by simp [fits, length]) ?_)
      have stays : ((endTransaction p s).inputs.get i).state ≠ .blocked := other
      simp only [allowInput, indexOf_of_val index, if_pos stays]
    · refine congrArg Host.Outcome.next (carryOut_ready ready (by omega) (by simp [fits, length])
        (t := s.withInput i { s.inputs.get i with state := .idle, score := 0 }) ?_ rfl)
      have low : inputActive (endTransaction p s) i = false := inactive
      rw [allowInput_blocked (s := endTransaction p s) index state, if_neg (Bool.eq_false_iff.1 low)]
      rfl
    · refine ⟨_, allowInput_resumes ready length index state active, ?_⟩
      have touched := makeAssert_touches i (stampNow s) true
        ((endTransaction p s).withInput i { s.inputs.get i with state := .active, score := 0, lastAssert := some (now s) })
      exact ⟨touched.same .inputs, makeAssert_nextSeq _ _ _ _, ⟨_, makeAssert_getLast _ _ _ _⟩, touched.same .clk,
        touched.same .settings, touched.same .pins⟩

end Sys2Proof.Machine.InputLaws
end

section
/-! PROOF. The reads of one thing by its number (O20): one lemma for the frame of a read, one sample for each, and the bytes of
READ NOTICES. -/

namespace Sys2Proof.Machine.InputLaws

set_option Elab.async false

/-! ### Numbers of arguments (R211) -/

/-- Two argument bytes make a number of 16 bits. -/
theorem argNumber_two_lt {args : List Byte} (length : args.length = 2) : argNumber args 0 2 < 65536 := by
  obtain ⟨x, y, rfl⟩ := List.length_eq_two.1 length
  have high := x.isLt
  have low := y.isLt
  show (0 * 256 + x.toNat) * 256 + y.toNat < 65536
  omega

/-- A 16-bit number is the one that a Nat below 65,536 writes. -/
theorem eq_ofNat_iff {x : BitVec 16} {n : Nat} (h : n < 65536) : x = BitVec.ofNat 16 n ↔ x.toNat = n := by
  rw [BitVec.toNat_eq, BitVec.toNat_ofNat, Nat.mod_eq_of_lt h]

theorem portOf_portCode (q : Port) : portOf (portCode (some q)) = some q := by cases q <;> rfl

theorem portOf_none {n : Nat} (h : n = 0 ∨ 4 ≤ n) : portOf n = none := by
  unfold portOf
  split <;> first | omega | rfl

/-! ### A read's frame (R187, R188) -/

section
variable {p : Port} {args : List Byte} {s : State} {good : Bool} {body : State → Reply}

/-- A read at a ready port answers what it samples, and nothing else moves. -/
theorem carryOut_sample {r : Result} (ready : Ready p s) (short : args.length ≤ 60) (fit : good = true)
    (samples : body (endTransaction p s) = { state := endTransaction p s, status := .done, result := r }) :
    (.next (carryOut p args good body s) : Outcome) = .next (answered p .done r s s) :=
  congrArg Host.Outcome.next (carryOut_ready ready short fit samples rfl)

theorem carryOut_refuses {x : Status} (ready : Ready p s) (short : args.length ≤ 60) (fit : good = true)
    (refuses : body (endTransaction p s) = refuse x (endTransaction p s)) :
    (.next (carryOut p args good body s) : Outcome) = .next (refusedWith p x s) :=
  congrArg Host.Outcome.next (carryOut_refused ready short fit refuses)

end

/-! ### The samples (R79, R106, R127, R176, R206) -/

theorem readInput_at {args : List Byte} {s : State} {i : Fin 16} (index : i.val = argNumber args 0 1) :
    readInput args s = { state := s, status := .done, result := .input (inputSample s i) } := by
  simp only [readInput, indexOf_of_val index]

theorem readUnit_at {args : List Byte} {s : State} {u : Fin 8} (index : u.val = argNumber args 0 1) :
    readUnit args s = { state := s, status := .done, result := .unit (unitSample s u) } := by
  simp only [readUnit, indexOf_of_val index]

theorem readNotices_at {args : List Byte} {s : State} {q : Port} (code : portCode (some q) = argNumber args 0 1) :
    readNotices args s = { state := s, status := .done, result := .notices (noticesSample q s) } := by
  simp only [readNotices, ← code, portOf_portCode]

/-- The level under the polarity is the line's bit and the polarity's, one of them alone. -/
theorem inputActive_eq_xor (s : State) (i : Fin 16) :
    inputActive s i = ((s.pins.tripIn.getLsbD i.val) ^^ (s.settings.inputs.inputs.get i).activeLow) :=
  activeUnder_eq_bne _ _

theorem settleTenths_eq (s : State) (x : MachineUnit) :
    (if x.candidate.isSome then some (min top16 (since s x.settleStart / Config.tenth)) else none)
      = x.candidate.map fun _ => min 65535 (since s x.settleStart / 1000000) := by
  cases x.candidate <;> rfl

/-- The record that bears a number of two argument bytes. -/
theorem find_of_argNumber {args : List Byte} {s : State} (length : args.length = 2) :
    s.bursts.find (BitVec.ofNat 16 (argNumber args 0 2))
      = s.bursts.records.find? fun r => r.number.toNat = argNumber args 0 2 := by
  unfold BurstTable.find
  simp only [eq_ofNat_iff (argNumber_two_lt length)]

theorem find_none {α : Type} {number : α → Nat} {xs : List α} {n : Nat} (h : ∀ r ∈ xs, number r ≠ n) :
    (xs.find? fun r => number r = n) = none := by
  rw [List.find?_eq_none]
  intro r held
  simpa using h r held

/-! ### READ NOTICES' bytes (R206, R211) -/

/-- The bytes that a free layout leaves to the numbers (log entry 7). -/
def numberBytes (layout : OpenLayout) (n : Nat) (widths fields : List Nat) : List Byte :=
  wireBytes (spaced (Config.openGap layout) 0 (8 * n - widths.sum)
    (putAll (Config.openOrder layout) 0 (List.zipWith bitsOf widths fields) []))

theorem numberBytes_length {layout : OpenLayout} {n : Nat} {widths fields : List Nat} (hf : fields.length = widths.length)
    (hl : widths.sum ≤ 8 * n) : (numberBytes layout n widths fields).length = n := by
  have order := putAll_perm (Config.openOrder layout) 0 (List.zipWith bitsOf widths fields) []
  have bits := (order.map List.length).sum_nat
  rw [List.append_nil, zipWith_bitsOf_length widths fields hf] at bits
  rw [numberBytes, wireBytes_length, spaced_length, bits]
  omega

/-- The three sets stand whole among four other bytes. -/
theorem notices_bytes (x : NoticesSample) :
    ∃ (others : List Byte) (parts : List (List Byte)), others.length = 4
      ∧ parts.Perm (x.sets ++ others.map fun b => [b]) ∧ (Result.notices x).bytes = parts.flatten :=
  ⟨numberBytes .notices 4 noticesWidths x.fields, _, numberBytes_length x.fields_length noticesWidths_le,
    putAll_perm (Config.openBlock .notices) 0 _ _, rfl⟩

/-- Settles O20, read by read. -/
theorem readsByNumberAnswerTheirSample : Obligations.ReadsByNumberAnswerTheirSample := by
  unfold Obligations.ReadsByNumberAnswerTheirSample
  intro p args s ready
  refine ⟨fun length => ?_, fun length => ?_⟩
  · have short : args.length ≤ 60 := by omega
    have fit : fits args 1 = true := by simp [fits, length]
    refine ⟨fun i index => ?_, fun beyond => ?_, fun u index => ?_, fun beyond => ?_, fun q code => ⟨?_, ?_⟩,
      fun beyond => ?_⟩
    · rw [← inputActive_eq_xor]
      exact carryOut_sample ready short fit (readInput_at index)
    · exact carryOut_refuses ready short fit (by simp only [readInput, indexOf_of_le beyond])
    · have sample := readUnit_at (s := endTransaction p s) index
      simp only [unitSample, settleTenths_eq] at sample
      exact carryOut_sample ready short fit sample
    · exact carryOut_refuses ready short fit (by simp only [readUnit, indexOf_of_le beyond])
    · exact carryOut_sample ready short fit (readNotices_at code)
    · exact notices_bytes _
    · exact carryOut_refuses ready short fit (by simp only [readNotices, portOf_none beyond])
  · have short : args.length ≤ 60 := by omega
    have fit : fits args 2 = true := by simp [fits, length]
    have found := find_of_argNumber (s := endTransaction p s) length
    refine ⟨fun r bears => ?_, fun absent => ?_, fun r bears => ?_, fun absent => ?_⟩
    · exact carryOut_sample ready short fit (by simp only [readBurst, found.trans bears]; rfl)
    · exact carryOut_refuses ready short fit (by simp only [readBurst, found.trans (find_none absent)])
    · have newest : ((endTransaction p s).shift.records.find? fun x => x.number.toNat = argNumber args 0 2) = some r := bears
      exact carryOut_sample ready short fit (by simp only [readShiftRecord, newest])
    · have none : ((endTransaction p s).shift.records.find? fun x => x.number.toNat = argNumber args 0 2) = none :=
        find_none (number := fun x : ShiftRecord => x.number.toNat) absent
      exact carryOut_refuses ready short fit (by simp only [readShiftRecord, none])

end Sys2Proof.Machine.InputLaws
end

section
/-! SUPPORT. What a qualified assert leaves (R67, R70, R71), and the Burst Table's records as an assert joins, replaces or adds one. -/

namespace Sys2Proof.Machine.InputLaws

set_option Elab.async false

/-! ### A TRIP_ASSERT entry and the other blocks (R84, R162) -/

section
variable (i : Fin 16) (x : FullStamp) (resumed : Bool) (s : State)

/-- The blocks beside the log and the shift are those that the Burst Table's taking left. -/
theorem makeAssert_blocks :
    let m := makeAssert i x resumed s
    let t := (takeAssert (assertOf i x s) (removeOldest s)).2
    m.bursts = t.bursts ∧ m.notices = t.notices ∧ m.units = t.units ∧ m.store = t.store
      ∧ m.shift.holdCount = t.shift.holdCount := by
  dsimp only
  rw [makeAssert_eq]
  exact ⟨rfl, rfl, rfl, rfl, rfl⟩

/-- Of the shift its trip summary moves, and the assert count gains 1 (R162). -/
theorem makeAssert_current :
    let m := makeAssert i x resumed s
    m.shift.current = { s.shift.current with summary := m.shift.current.summary }
      ∧ m.shift.current.summary.asserts = satSucc top32 s.shift.current.summary.asserts := by
  have taken := takeAssert_current (assertOf i x s) (removeOldest s)
  dsimp only at taken ⊢
  rw [removeOldest_shift] at taken
  rw [makeAssert_eq]
  generalize (takeAssert (assertOf i x s) (removeOldest s)) = t at taken
  simp only [countAssert, putLog]
  rw [taken]
  exact ⟨rfl, rfl⟩

end

/-! ### The score of a qualified assert (R71) -/

theorem qualified_of {x : InputState} {i : Fin 16} {c : Capture} {s : State} (works : working s = true)
    (state : (s.inputs.get i).state = x) (captured : (s.inputs.get i).capture = some c)
    (due : c.tq * 1000 ≤ since s c.reading) : qualified x i s = some c := by
  have reached : tqReached s c = true := decide_eq_true due
  simp only [qualified, captured, works, state, reached, and_self, if_true]

theorem fastRepeat_iff (s : State) (i : Fin 16) (c : Capture) :
    fastRepeat s i c = true ↔
      ∃ r, (s.inputs.get i).lastAssert = some r
        ∧ elapsedBetween r c.reading < s.settings.inputs.chatter * 1000000 := by
  unfold fastRepeat
  split
  next never => simp [never]
  next r last =>
    simp only [last, Option.some.injEq, exists_eq_left', decide_eq_true_eq]
    exact Iff.rfl

/-- The state in which the input is scored: the entry made, and the edge's reading the last assert's. -/
def assertedState (i : Fin 16) (c : Capture) (s : State) : State :=
  (makeAssert i c.stamp false s).withInput i
    { (makeAssert i c.stamp false s).inputs.get i with lastAssert := some c.reading }

theorem qualifyAssert_eq {i : Fin 16} {c : Capture} {s : State} (due : qualified .qualifying i s = some c) :
    qualifyAssert i s = scoreInput i (scoreAfter s i c) .active (assertedState i c s) := by
  simp only [qualifyAssert, due]
  rfl

theorem assertedState_settings (i : Fin 16) (c : Capture) (s : State) : (assertedState i c s).settings = s.settings :=
  (makeAssert_touches i c.stamp false s).same .settings

/-! ### Lists of records -/

/-- The record of a number, where numbers are distinct. -/
theorem find_of_mem {b : BurstTable} {r : BurstRecord} (distinct : (b.records.map fun x => x.number).Nodup)
    (held : r ∈ b.records) : b.find r.number = some r := by
  cases found : b.find r.number with
  | none =>
    have absent := List.find?_eq_none.1 found r held
    exact absurd (decide_eq_true rfl) absent
  | some x =>
    obtain ⟨heldToo, number⟩ := find_number found
    rw [List.inj_on_of_nodup_map distinct heldToo held number]

/-- Where numbers are distinct, writing back a record changes its own place alone. -/
theorem put_records_split {b : BurstTable} {before after : List BurstRecord} {old new : BurstRecord}
    (split : b.records = before ++ old :: after) (distinct : (b.records.map fun x => x.number).Nodup)
    (number : new.number = old.number) : (b.put new).records = before ++ new :: after := by
  rw [split, List.map_append, List.map_cons, List.nodup_middle, List.nodup_cons, ← List.map_append] at distinct
  obtain ⟨alone, _⟩ := distinct
  have others : ∀ x ∈ before ++ after, x.number ≠ new.number := fun x held same =>
    alone (List.mem_map.2 ⟨x, held, same.trans number⟩)
  have kept : ∀ xs : List BurstRecord, (∀ x ∈ xs, x ∈ before ++ after) →
      (xs.map fun x => if x.number = new.number then new else x) = xs := fun xs held =>
    (List.map_congr_left fun x h => if_neg (others x (held x h))).trans (List.map_id' xs)
  simp only [BurstTable.put, split, List.map_append, List.map_cons, number.symm, if_true,
    kept before fun x h => List.mem_append_left after h, kept after fun x h => List.mem_append_right before h]

/-- The records that hold, when one that holds at most as before is written back. -/
theorem countP_put {b : BurstTable} {old new : BurstRecord} (held : old ∈ b.records)
    (distinct : (b.records.map fun x => x.number).Nodup) (number : new.number = old.number)
    (rises : old.holds = true → new.holds = true) :
    (b.put new).records.countP BurstRecord.holds =
      b.records.countP BurstRecord.holds + if new.holds && !old.holds then 1 else 0 := by
  obtain ⟨before, after, split⟩ := List.append_of_mem held
  rw [put_records_split split distinct number, split, List.countP_append, List.countP_append, List.countP_cons,
    List.countP_cons]
  cases was : old.holds
  · cases is : new.holds
    · simp
    · simp only [Bool.false_eq_true, Bool.not_false, Bool.and_true, if_true, if_false]
      omega
  · simp [rises was]

/-! ### The next free number (R92) -/

/-- The search passes over the numbers that are borne, and stops at the first that is free or when its fuel ends. -/
theorem freeNumber_spec (records : List BurstRecord) (fuel : Nat) (n : BitVec 16) :
    ∃ k ≤ fuel, freeNumber records fuel n = n + BitVec.ofNat 16 k
      ∧ (∀ j < k, ∃ x ∈ records, x.number = n + BitVec.ofNat 16 j)
      ∧ (k < fuel → ∀ x ∈ records, x.number ≠ n + BitVec.ofNat 16 k) := by
  induction fuel generalizing n with
  | zero => exact ⟨0, Nat.le_refl 0, by simp [freeNumber], by simp, by simp⟩
  | succ fuel ih =>
    have step : ∀ j, n + 1 + BitVec.ofNat 16 j = n + BitVec.ofNat 16 (j + 1) := by
      intro j
      rw [BitVec.add_assoc, BitVec.ofNat_add, BitVec.add_comm (BitVec.ofNat 16 j)]
      rfl
    cases borne : records.any fun r => decide (r.number = n) with
    | true =>
      obtain ⟨k, within, found, passed, free⟩ := ih (n + 1)
      refine ⟨k + 1, by omega, ?_, fun j below => ?_, fun more => ?_⟩
      · rw [freeNumber, if_pos borne, found, step]
      · cases j with
        | zero =>
          obtain ⟨x, held, number⟩ := List.any_eq_true.1 borne
          exact ⟨x, held, by simpa using number⟩
        | succ j =>
          rw [← step]
          exact passed j (by omega)
      · rw [← step]
        exact free (by omega)
    | false =>
      have free : ∀ x ∈ records, x.number ≠ n := by simpa using borne
      refine ⟨0, by omega, ?_, fun j below => absurd below (Nat.not_lt_zero j), fun _ => ?_⟩
      · rw [freeNumber, if_neg (by rw [borne]; decide)]
        simp
      · simpa using free

/-- As many numbers in a row as are borne need as many records. -/
theorem borne_le_length {records : List BurstRecord} {n : BitVec 16} {k : Nat} (small : k ≤ 65536)
    (borne : ∀ j < k, ∃ x ∈ records, x.number = n + BitVec.ofNat 16 j) : k ≤ records.length := by
  have distinct : ((List.range k).map fun j => n + BitVec.ofNat 16 j).Nodup := by
    refine List.Nodup.map_on ?_ List.nodup_range
    intro i hi j hj same
    rw [List.mem_range] at hi hj
    have numbers := congrArg BitVec.toNat (add_left_cancel same)
    simpa [Nat.mod_eq_of_lt (show i < 65536 by omega), Nat.mod_eq_of_lt (show j < 65536 by omega)] using numbers
  have inside : ((List.range k).map fun j => n + BitVec.ofNat 16 j) ⊆ records.map fun x => x.number := by
    intro m held
    obtain ⟨j, below, rfl⟩ := List.mem_map.1 held
    obtain ⟨x, heldToo, number⟩ := borne j (List.mem_range.1 below)
    exact List.mem_map.2 ⟨x, heldToo, number⟩
  simpa using (List.subperm_of_subset distinct inside).length_le

/-- Among fewer than 32 records the search finds the first number that none bears. -/
theorem freeNumber_free {records : List BurstRecord} (room : records.length < 32) (n : BitVec 16) :
    (∀ x ∈ records, x.number ≠ freeNumber records 33 n)
      ∧ ∃ k ≤ 32, freeNumber records 33 n = n + BitVec.ofNat 16 k
        ∧ ∀ j < k, ∃ x ∈ records, x.number = n + BitVec.ofNat 16 j := by
  obtain ⟨k, within, found, passed, free⟩ := freeNumber_spec records 33 n
  have few := borne_le_length (by omega) passed
  rw [found]
  exact ⟨free (by omega), k, by omega, rfl, passed⟩

/-! ### A place for a record (R92) -/

/-- With all records CLOSED a place is free, or is that of the oldest ACKNOWLEDGED one. -/
theorem makePlace_some {records kept : List BurstRecord} (few : records.length ≤ 32)
    (closed : ∀ r ∈ records, r.state = .closed) (place : makePlace records = some kept) :
    kept.length < 32 ∧ (records.length < 32 → kept = records)
      ∧ (¬ records.length < 32 → ∃ before r after, records = before ++ r :: after ∧ r.ack ≠ none
          ∧ (∀ x ∈ before, ¬ x.ack ≠ none) ∧ kept = before ++ after) := by
  unfold makePlace Config.burstPlaces at place
  split at place
  next room =>
    cases place
    exact ⟨room, fun _ => rfl, fun full => absurd room full⟩
  next full =>
    split at place
    · cases place
    next k found =>
      cases place
      obtain ⟨within, spare, first⟩ := List.findIdx?_eq_some_iff_getElem.1 found
      have split := List.getElem_cons_drop within
      refine ⟨by rw [List.length_eraseIdx_of_lt within]; omega, fun room => absurd room full, fun _ => ?_⟩
      refine ⟨records.take k, records[k], records.drop (k + 1), ?_, ?_, ?_, List.eraseIdx_eq_take_drop_succ ..⟩
      · rw [split, List.take_append_drop]
      · simp only [Bool.and_eq_true] at spare
        obtain ⟨_, acknowledged⟩ := spare
        exact Option.isSome_iff_ne_none.1 acknowledged
      · intro x held acknowledged
        obtain ⟨j, below, rfl⟩ := List.getElem_of_mem held
        rw [List.length_take] at below
        refine first j (by omega) ?_
        rw [List.getElem_take] at acknowledged
        have isClosed := closed records[j] (List.getElem_mem _)
        simp [isClosed, Option.isSome_iff_ne_none.2 acknowledged]

/-- With all records CLOSED no place means that the table is full and none is acknowledged. -/
theorem makePlace_none {records : List BurstRecord} (closed : ∀ r ∈ records, r.state = .closed)
    (place : makePlace records = none) : ¬ records.length < 32 ∧ ∀ r ∈ records, ¬ r.ack ≠ none := by
  unfold makePlace Config.burstPlaces at place
  split at place
  · cases place
  next full =>
    split at place
    next absent =>
      refine ⟨full, fun r held acknowledged => ?_⟩
      have unfit := List.findIdx?_eq_none_iff.1 absent r held
      simp [closed r held, Option.isSome_iff_ne_none.2 acknowledged] at unfit
    · cases place

end Sys2Proof.Machine.InputLaws
end

section
/-! SUPPORT. A fault trip handed on with a sound queue (R100, R122, R137), a burst notice (R104), and the first-out (R95). -/

namespace Sys2Proof.Machine.InputLaws

set_option Elab.async false

/-! ### A fault trip in the terms of the claim (R100, R122) -/

theorem faultUnit_eq_some {s : State} {a : Assert} {c : BitVec 8} {u : Fin 8} :
    faultUnit s a c = some u ↔
      (matchedActions s a.unit a.code).faultTrip = true ∧ a.unit.val = u.val ∧ c.getLsbD u.val = false := by
  unfold faultUnit
  split
  next machine =>
    split
    next due =>
      obtain ⟨trips, fresh⟩ := due
      rw [Option.some.injEq, Fin.ext_iff]
      exact ⟨fun same => ⟨trips, same, same ▸ fresh⟩, fun ⟨_, same, _⟩ => same⟩
    next idle =>
      refine ⟨nofun, fun ⟨trips, same, fresh⟩ => absurd ⟨trips, ?_⟩ idle⟩
      rw [same]
      exact fresh
  next station =>
    refine ⟨nofun, fun ⟨_, same, _⟩ => absurd u.isLt ?_⟩
    rwa [same] at station

/-- A bit that stands already joins a set without a trace. -/
theorem or_bit_of_getLsbD {c : BitVec 8} {k : Nat} (stands : c.getLsbD k = true) :
    c ||| BitVec.ofNat 8 (2 ^ k) = c := by
  have written : setBit c k true = c := by
    refine BitVec.eq_of_getLsbD_eq fun j below => ?_
    rw [getLsbD_setBit c k j true below]
    split
    next same => rw [same, stands]
    next => rfl
  exact written

/-- The counted units with the unit of a fault trip among them (R100). -/
theorem countedAfter_eq (s : State) (a : Assert) (c : BitVec 8) :
    countedAfter s a c =
      if (matchedActions s a.unit a.code).faultTrip = true ∧ a.unit.val < 8 then c ||| BitVec.ofNat 8 (2 ^ a.unit.val)
      else c := by
  unfold countedAfter
  split
  next none =>
    split
    next due =>
      obtain ⟨trips, machine⟩ := due
      refine (or_bit_of_getLsbD ?_).symm
      by_contra fresh
      have counts := (faultUnit_eq_some (u := ⟨a.unit.val, machine⟩)).2 ⟨trips, rfl, Bool.eq_false_iff.2 fresh⟩
      rw [none] at counts
      cases counts
    next => rfl
  next u counts =>
    obtain ⟨trips, same, _⟩ := faultUnit_eq_some.1 counts
    rw [if_pos ⟨trips, same ▸ u.isLt⟩, same]

/-- The request for the record of unit `u` (R137). -/
def unitRequest (u : Fin 8) : Request := { record := .unit u, emergency := false, retry := false }

/-- A part that saves a record starts no other (R137). -/
theorem startProgram_busy {s : State} {p : Program} (program : s.store.program = some p) : startProgram s = s := by
  unfold startProgram
  split
  next idle _ => cases program.symm.trans idle
  next => rfl

/-- A part that saves nothing starts the program of the request at the head of the queue (R137, R138). -/
theorem startProgram_head {s : State} {r : Request} {rest : List Request} (works : working s = true)
    (idle : s.store.program = none) (queue : s.store.queue = r :: rest) (record : r.record ≠ .settings) :
    startProgram s = { s with store := { s.store with queue := rest, program := some (programFor s r) } } := by
  simp only [startProgram, works, idle, queue, if_neg record]

/-- The store after a request of a unit's record: it merges with a queued one, starts its program, or joins the tail (R137). -/
def requestedStore (u : Fin 8) (s : State) : TallyStore :=
  if s.store.isQueued (.unit u) then s.store
  else match s.store.program with
    | none => { s.store with queue := [], program := some (programFor s (unitRequest u)) }
    | some _ => { s.store with queue := s.store.queue ++ [unitRequest u] }

theorem request_eq {u : Fin 8} {s : State} (works : working s = true) (queue : QueueSafe s) :
    request (.unit u) s = { s with store := requestedStore u s } := by
  obtain ⟨_, _, rests, _⟩ := queue
  rw [request, if_neg (by rw [works]; decide), requestedStore]
  split
  next => rfl
  next =>
    cases program : s.store.program with
    | none =>
      have empty : s.store.queue ++ [unitRequest u] = [unitRequest u] := by rw [rests works program, List.nil_append]
      exact startProgram_head (s := { s with store := { s.store with queue := s.store.queue ++ [unitRequest u] } }) works
        program empty nofun
    | some p =>
      exact startProgram_busy (s := { s with store := { s.store with queue := s.store.queue ++ [unitRequest u] } }) program

/-- A fault trip of a fitted unit is counted, and its record requested (R100, R122). -/
theorem handFault_fitted {u : Fin 8} {s : State} (works : working s = true) (queue : QueueSafe s)
    (fitted : isFitted s u = true) :
    handFault (some u) s = { countedFault u s with store := requestedStore u (countedFault u s) } := by
  rw [handFault_some, if_pos fitted]
  exact request_eq (s := countedFault u s) works queue

/-- No fault trip of a fitted unit leaves everything (R122). -/
theorem handFault_idle {x : Option (Fin 8)} {s : State} (idle : ∀ u, x = some u → isFitted s u = false) :
    handFault x s = s := by
  cases x with
  | none => rfl
  | some u => rw [handFault_some, if_neg (by rw [idle u rfl]; decide)]

/-- With a sound queue a fault trip binds no port. -/
theorem handFault_ports_eq (x : Option (Fin 8)) {s : State} (works : working s = true) (queue : QueueSafe s) :
    (handFault x s).ports = s.ports := by
  cases x with
  | none => rfl
  | some u =>
    cases fitted : isFitted s u with
    | true => rw [handFault_fitted works queue fitted]; rfl
    | false =>
      rw [handFault_idle fun v same => ?_]
      cases same
      exact fitted

/-! ### The state that an assert leaves (R92 to R94) -/

/-- `s` with a Burst Table, the hold count it gives, the bursts of the summary, a fault trip handed on, and notices. -/
def takenState (b : BurstTable) (bursts : Nat) (u : Option (Fin 8)) (n : PerPort Notices) (s : State) : State :=
  { handFault u (withTable b b.holdCount bursts s) with notices := n }

section
variable (b : BurstTable) (bursts : Nat) (n : PerPort Notices) {s : State}

theorem takenState_bursts (u : Option (Fin 8)) : (takenState b bursts u n s).bursts = b := by
  rw [takenState, handFault_eq]
  rfl

theorem takenState_summary_bursts (u : Option (Fin 8)) :
    (takenState b bursts u n s).shift.current.summary.bursts = bursts := by
  rw [takenState, handFault_eq]
  rfl

theorem takenState_frame (u : Option (Fin 8)) (works : working s = true) (queue : QueueSafe s) :
    let t := takenState b bursts u n s
    t = { s with
      bursts := t.bursts, units := t.units, store := t.store, notices := t.notices
      shift := { s.shift with
        holdCount := t.bursts.holdCount
        current := { s.shift.current with summary := { s.shift.current.summary with
          bursts := t.shift.current.summary.bursts, faults := t.shift.current.summary.faults } } } } := by
  have ports := handFault_ports_eq u (s := withTable b b.holdCount bursts s) works queue
  dsimp only
  rw [takenState_bursts, takenState_summary_bursts]
  unfold takenState
  rw [handFault_eq, ports]
  rfl

/-- A fault trip that is counted (R100, R122): the unit's count, its record's request, and the summary. -/
theorem takenState_fault {u : Fin 8} (works : working s = true) (queue : QueueSafe s) (fitted : isFitted s u = true) :
    let t := takenState b bursts (some u) n s
    t.units = s.units.set u ((s.units.get u).gain .faults)
      ∧ t.store = (request (.unit u) { s with units := t.units }).store
      ∧ t.shift.current.summary.faults = satSucc top32 s.shift.current.summary.faults := by
  have handed := handFault_fitted (s := withTable b b.holdCount bursts s) works queue fitted
  have units : (takenState b bursts (some u) n s).units = s.units.set u ((s.units.get u).gain .faults) := by
    rw [takenState, handed]
    rfl
  dsimp only
  rw [units, request_eq (s := { s with units := s.units.set u ((s.units.get u).gain .faults) }) works queue]
  rw [takenState, handed]
  exact ⟨rfl, rfl, rfl⟩

theorem takenState_no_fault {x : Option (Fin 8)} (idle : ∀ u, x = some u → isFitted s u = false) :
    let t := takenState b bursts x n s
    t.units = s.units ∧ t.store = s.store ∧ t.shift.current.summary.faults = s.shift.current.summary.faults := by
  dsimp only
  rw [takenState, handFault_idle (s := withTable b b.holdCount bursts s) idle]
  exact ⟨rfl, rfl, rfl⟩

end

/-! ### Notices (R104, R201) -/

/-- What a posting leaves of the notices depends on the notices, the settings and the supply. -/
theorem postTo_notices_congr {k : NoticeKind} {p : Port} {s t : State} (settings : t.settings = s.settings)
    (supply : t.supply = s.supply) (notices : t.notices = s.notices) : (postTo k p t).notices = (postTo k p s).notices := by
  rw [postTo_notices, postTo_notices, settings, notices, working_congr supply]

theorem postWhere_notices_congr {f : Port → Bool} {k : NoticeKind} {s t : State} (settings : t.settings = s.settings)
    (supply : t.supply = s.supply) (notices : t.notices = s.notices) :
    (postWhere f k t).notices = (postWhere f k s).notices := by
  have one : ∀ (p : Port) (x y : State), y.settings = x.settings ∧ y.supply = x.supply ∧ y.notices = x.notices →
      let one := fun (z : State) => if f p then postTo k p z else z
      (one y).settings = (one x).settings ∧ (one y).supply = (one x).supply ∧ (one y).notices = (one x).notices := by
    intro p x y ⟨settings, supply, notices⟩
    have frame : ∀ z, (postTo k p z).settings = z.settings ∧ (postTo k p z).supply = z.supply := fun z =>
      ⟨(postTo_touches k p z).same .settings, (postTo_touches k p z).same .supply⟩
    dsimp only
    split
    · obtain ⟨settingsX, supplyX⟩ := frame x
      obtain ⟨settingsY, supplyY⟩ := frame y
      rw [settingsX, settingsY, supplyX, supplyY]
      exact ⟨settings, supply, postTo_notices_congr settings supply notices⟩
    · exact ⟨settings, supply, notices⟩
  obtain ⟨_, _, posted⟩ := one .c _ _ (one .b _ _ (one .a s t ⟨settings, supply, notices⟩))
  exact posted

/-- A burst notice posted after the fault trip is the same as one posted before the assert. -/
theorem postBurst_takenState (k : NoticeKind) (r : BurstRecord) (b : BurstTable) (bursts : Nat) (u : Option (Fin 8))
    (s : State) :
    postBurst k r (handFault u (withTable b b.holdCount bursts s)) =
      takenState b bursts u (postBurst k r s).notices s := by
  have same : ∀ x : Option (Fin 8), ∀ y : State, (handFault x y).settings = y.settings ∧ (handFault x y).supply = y.supply
      ∧ (handFault x y).notices = y.notices := by
    intro x y
    rw [handFault_eq]
    exact ⟨rfl, rfl, rfl⟩
  obtain ⟨settings, supply, notices⟩ := same u (withTable b b.holdCount bursts s)
  have reach : reachesPort (handFault u (withTable b b.holdCount bursts s)) r = reachesPort s r := by
    funext p
    unfold reachesPort
    rw [settings]
    rfl
  have posted : (postBurst k r (handFault u (withTable b b.holdCount bursts s))).notices = (postBurst k r s).notices := by
    unfold postBurst
    rw [reach]
    exact postWhere_notices_congr settings supply notices
  rw [postBurst_eq, posted]
  rfl

/-! ### First-out (R95) -/

/-- A member is earlier by epoch, then stamp, then input number; epochs 128 apart are left to a free value (R95). -/
theorem earlier_iff {x y : FirstOut} (apart : (y.epoch - x.epoch).toNat ≠ 128) :
    x.earlier y = true ↔
      (1 ≤ (y.epoch - x.epoch).toNat ∧ (y.epoch - x.epoch).toNat ≤ 127)
        ∨ ((y.epoch - x.epoch).toNat = 0 ∧ (0 < stampDifference y.stamp x.stamp
            ∨ (stampDifference y.stamp x.stamp = 0 ∧ x.input.val < y.input.val))) := by
  have zero : (y.epoch - x.epoch).toNat = 0 ↔ x.epoch = y.epoch := by
    constructor
    · intro h
      bv_omega
    · intro h
      rw [h, BitVec.sub_self]
      rfl
  unfold FirstOut.earlier
  split
  next other =>
    have nonzero : (y.epoch - x.epoch).toNat ≠ 0 := fun h => other (zero.1 h)
    simp only [epochEarlier, if_neg apart, decide_eq_true_eq, nonzero, false_and, or_false]
  next same =>
    have equal : (y.epoch - x.epoch).toNat = 0 := zero.2 (not_not.1 same)
    rw [equal]
    split
    next ahead => simp [ahead]
    next level => simp [not_not.1 level]

end Sys2Proof.Machine.InputLaws
end

section
/-! SUPPORT. The Burst Table that an assert leaves, when it joins a record, opens one, or finds no place (R92 to R94, R101). -/

namespace Sys2Proof.Machine.InputLaws

set_option Elab.async false

/-! ### The tables that an assert leaves (R92 to R94, R101) -/

/-- The Burst Table with the record `new` in the place of `old`. -/
def joinedTable (old new : BurstRecord) (s : State) : BurstTable :=
  { s.bursts.put new with holdCount := s.bursts.holdCount + if new.holds && !old.holds then 1 else 0 }

/-- The Burst Table with a new record among those kept. -/
def openedTable (kept : List BurstRecord) (r : BurstRecord) (s : State) : BurstTable :=
  { records := kept ++ [r], openRef := some r.number, nextNumber := r.number + 1,
    holdCount := s.bursts.holdCount + if r.holds then 1 else 0 }

/-- Where the shift's hold count is the table's, it is again after a rise. -/
theorem raised_hold {s : State} (agrees : s.shift.holdCount = s.bursts.holdCount) (n : Nat) :
    (if n = s.bursts.holdCount then s.shift.holdCount else n) = n := by
  split
  next same => rw [agrees, same]
  next => rfl

theorem putRecord_eq {s : State} (agrees : s.shift.holdCount = s.bursts.holdCount) (old new : BurstRecord) :
    putRecord old new s =
      withTable (joinedTable old new s) (joinedTable old new s).holdCount s.shift.current.summary.bursts s := by
  have hold := raised_hold agrees (joinedTable old new s).holdCount
  calc putRecord old new s
      = withTable (joinedTable old new s)
          (if (joinedTable old new s).holdCount = s.bursts.holdCount then s.shift.holdCount
            else (joinedTable old new s).holdCount) s.shift.current.summary.bursts s := rfl
    _ = _ := by rw [hold]

theorem addRecord_eq {s : State} (agrees : s.shift.holdCount = s.bursts.holdCount) (kept : List BurstRecord) (r : BurstRecord) :
    addRecord kept r s =
      withTable (openedTable kept r s) (openedTable kept r s).holdCount
        (satSucc top32 s.shift.current.summary.bursts) s := by
  have hold := raised_hold agrees (openedTable kept r s).holdCount
  calc addRecord kept r s
      = withTable (openedTable kept r s)
          (if (openedTable kept r s).holdCount = s.bursts.holdCount then s.shift.holdCount
            else (openedTable kept r s).holdCount) (satSucc top32 s.shift.current.summary.bursts) s := rfl
    _ = _ := by rw [hold]

/-- The hold count is the number of the records that hold, after a record that holds at least as before is written back. -/
theorem joinedTable_holdCount {old new : BurstRecord} {s : State} (inv : BurstInv s) (held : old ∈ s.bursts.records)
    (number : new.number = old.number) (rises : old.holds = true → new.holds = true) :
    (joinedTable old new s).holdCount = (joinedTable old new s).records.countP BurstRecord.holds := by
  obtain ⟨_, distinct, _, _, count, _⟩ := inv
  have moved := countP_put held distinct number rises
  show s.bursts.holdCount + _ = (s.bursts.put new).records.countP BurstRecord.holds
  rw [moved, count]

theorem openedTable_holdCount {kept : List BurstRecord} {r : BurstRecord} {s : State} (inv : BurstInv s)
    (same : kept.countP BurstRecord.holds = s.bursts.records.countP BurstRecord.holds) :
    (openedTable kept r s).holdCount = (openedTable kept r s).records.countP BurstRecord.holds := by
  obtain ⟨_, _, _, _, count, _⟩ := inv
  show s.bursts.holdCount + _ = (kept ++ [r]).countP BurstRecord.holds
  rw [List.countP_append, List.countP_singleton, same, count]

/-- An acknowledged record holds nothing, so that the records that hold are as many without it. -/
theorem countP_kept {before after : List BurstRecord} {r : BurstRecord} (acknowledged : r.ack ≠ none) :
    (before ++ after).countP BurstRecord.holds = (before ++ r :: after).countP BurstRecord.holds := by
  have idle : ¬ r.holds = true := by simp [BurstRecord.holds, acknowledged]
  rw [List.countP_append, List.countP_append, List.countP_cons_of_neg idle]

/-! ### The three ways of an assert (R92 to R94) -/

theorem takenState_of_handFault (b : BurstTable) (bursts : Nat) (u : Option (Fin 8)) (s : State) :
    handFault u (withTable b b.holdCount bursts s) = takenState b bursts u s.notices s := by
  rw [takenState, handFault_eq]
  rfl

section
variable {s : State} (inv : BurstInv s) (a : Assert)
include inv

/-- With a record FORMING or OPEN the assert joins it. -/
theorem takeAssert_joins {r : BurstRecord} (held : r ∈ s.bursts.records) (live : r.state ≠ .closed) :
    takeAssert a s = (r.number, takenState (joinedTable r (joinedRecord r a s) s) s.shift.current.summary.bursts
      (faultUnit s a r.counted)
      (if BurstRecord.reopens r then (postBurst .burstReopened (joinedRecord r a s) s).notices else s.notices) s) := by
  obtain ⟨_, distinct, referred, _, _, agrees, _⟩ := inv
  have found : s.bursts.openRef.bind s.bursts.find = some r := by
    rw [referred r held live, Option.bind_some, find_of_mem distinct held]
  have joins : takeAssert a s = (r.number, joinOpen r a s) := by simp only [takeAssert, found]
  rw [joins, joinOpen_eq, putRecord_eq agrees]
  refine congrArg (Prod.mk r.number) ?_
  dsimp only
  split
  · exact postBurst_takenState _ _ _ _ _ _
  · exact takenState_of_handFault _ _ _ _

theorem openRef_of_closed (closed : ∀ r ∈ s.bursts.records, r.state = .closed) : s.bursts.openRef = none := by
  obtain ⟨_, _, _, refers, _⟩ := inv
  cases ref : s.bursts.openRef with
  | none => rfl
  | some n =>
    obtain ⟨r, held, _, live⟩ := refers n ref
    exact absurd (closed r held) live

/-- With none, and a place, the assert opens a burst. -/
theorem takeAssert_opens {kept : List BurstRecord} (closed : ∀ r ∈ s.bursts.records, r.state = .closed)
    (place : makePlace s.bursts.records = some kept) :
    let number := freeNumber kept 33 s.bursts.nextNumber
    takeAssert a s = (number, takenState (openedTable kept (openedRecord number a s) s)
      (satSucc top32 s.shift.current.summary.bursts) (faultUnit s a 0) s.notices s) := by
  have opens : takeAssert a s = (freeNumber kept 33 s.bursts.nextNumber, openBurst kept a s) := by
    simp only [takeAssert, openRef_of_closed inv closed, Option.bind_none, place]
  obtain ⟨_, _, _, _, _, agrees, _⟩ := inv
  dsimp only
  rw [opens, openBurst_eq, addRecord_eq agrees, takenState_of_handFault]

/-- With none and no place, the assert joins the newest record. -/
theorem takeAssert_overflows {r : BurstRecord} (closed : ∀ r ∈ s.bursts.records, r.state = .closed)
    (place : makePlace s.bursts.records = none) (last : s.bursts.records.getLast? = some r) :
    takeAssert a s = (r.number, takenState (joinedTable r (overflowRecord r a s) s) s.shift.current.summary.bursts
      (faultUnit s a r.counted) (postBurst .burst (overflowRecord r a s) s).notices s) := by
  have joins : takeAssert a s = (r.number, joinOverflow r a s) := by
    simp only [takeAssert, openRef_of_closed inv closed, Option.bind_none, place, last]
  obtain ⟨_, _, _, _, _, agrees, _⟩ := inv
  rw [joins, joinOverflow_eq, putRecord_eq agrees]
  exact congrArg (Prod.mk r.number) (postBurst_takenState _ _ _ _ _ _)

end

end Sys2Proof.Machine.InputLaws
end

section
/-! PROOF. A qualified assert is logged, joined to a burst and scored; a qualified release ends in IDLE (O41). -/

namespace Sys2Proof.Machine.InputLaws

set_option Elab.async false

/-! ### The claim's clauses -/

/-- The fault trip of assert `a` counts for unit `u`, which the record has not counted yet (R100, R122). -/
def CountsFault (s : State) (a : Assert) (counted : BitVec 8) (u : Fin 8) : Prop :=
  (matchedActions s a.unit a.code).faultTrip = true ∧ a.unit.val = u.val ∧ counted.getLsbD u.val = false
    ∧ isFitted s u = true

/-- What a fault trip leaves in `t` of `s` (R100, R122, R137). -/
def FaultTaken (s : State) (a : Assert) (counted : BitVec 8) (t : State) : Prop :=
  (∀ u, CountsFault s a counted u →
      t.units = s.units.set u ((s.units.get u).gain .faults)
        ∧ t.store = (request (.unit u) { s with units := t.units }).store
        ∧ t.shift.current.summary.faults = satSucc top32 s.shift.current.summary.faults)
    ∧ ((∀ u, ¬ CountsFault s a counted u) →
        t.units = s.units ∧ t.store = s.store ∧ t.shift.current.summary.faults = s.shift.current.summary.faults)

theorem takenState_faultTaken {s : State} (works : working s = true) (queue : QueueSafe s) (a : Assert) (counted : BitVec 8)
    (b : BurstTable) (bursts : Nat) (n : PerPort Notices) :
    FaultTaken s a counted (takenState b bursts (faultUnit s a counted) n s) := by
  refine ⟨fun u ⟨trips, unit, fresh, fitted⟩ => ?_, fun idle => ?_⟩
  · rw [faultUnit_eq_some.2 ⟨trips, unit, fresh⟩]
    exact takenState_fault b bursts n works queue fitted
  · refine takenState_no_fault b bursts n fun u counts => Bool.eq_false_iff.2 fun fitted => idle u ?_
    obtain ⟨trips, unit, fresh⟩ := faultUnit_eq_some.1 counts
    exact ⟨trips, unit, fresh, fitted⟩

theorem reopens_iff {r : BurstRecord} : BurstRecord.reopens r = true ↔ r.state = .opened ∧ r.ack ≠ none := by
  simp [BurstRecord.reopens, Option.isSome_iff_ne_none]

/-- An OPEN record is UNACKNOWLEDGED after a join; in FORMING the acknowledgement stands (R103). -/
theorem joinedRecord_ack (r : BurstRecord) (a : Assert) (s : State) :
    (joinedRecord r a s).ack = if r.state = .opened then none else r.ack := by
  unfold joinedRecord BurstRecord.reopens
  cases acknowledged : r.ack <;> simp

/-- The open record after a join, field by field, but for its first-out (R94, R103). -/
theorem joinedRecord_eq (r : BurstRecord) (a : Assert) (s : State) :
    joinedRecord r a s =
      { r.takeAssert s a with
        lastJoin := now s, firstOut := (joinedRecord r a s).firstOut, ack := if r.state = .opened then none else r.ack } := by
  rw [← joinedRecord_ack r a s]
  rfl

/-- The first-out after a join: in FORMING the earlier member, where epochs are not 128 apart (R95). -/
theorem joinedRecord_firstOut (r : BurstRecord) (a : Assert) (s : State) :
    let first := (joinedRecord r a s).firstOut
    let d := (r.firstOut.epoch - a.member.epoch).toNat
    let ahead := stampDifference r.firstOut.stamp a.member.stamp
    let earlier := (1 ≤ d ∧ d ≤ 127) ∨ (d = 0 ∧ (0 < ahead ∨ (ahead = 0 ∧ a.member.input.val < r.firstOut.input.val)))
    (r.state = .forming → (earlier → first = a.member) ∧ (¬ earlier → d ≠ 128 → first = r.firstOut))
      ∧ (r.state ≠ .forming → first = r.firstOut) ∧ (first = a.member ∨ first = r.firstOut) := by
  intro first d ahead earlier
  have order : d ≠ 128 → (a.member.earlier r.firstOut = true ↔ earlier) := earlier_iff
  refine ⟨fun forming => ⟨fun before => ?_, fun later apart => ?_⟩, fun other => ?_, ite_eq_or_eq _ _ _⟩
  · have near : (1 ≤ d ∧ d ≤ 127) ∨ d = 0 := before.imp_right And.left
    exact if_pos ⟨forming, (order (by omega)).2 before⟩
  · exact if_neg fun ⟨_, before⟩ => later ((order apart).1 before)
  · exact if_neg fun ⟨forming, _⟩ => other forming

theorem takenState_holdCount {b : BurstTable} {bursts : Nat} {u : Option (Fin 8)} {n : PerPort Notices} {s : State}
    (count : b.holdCount = b.records.countP BurstRecord.holds) :
    (takenState b bursts u n s).bursts.holdCount = (takenState b bursts u n s).bursts.records.countP BurstRecord.holds := by
  rw [takenState_bursts]
  exact count

/-- A record that an assert joined: the table, the notices, the summary and the fault trip (R94, R100, R103). -/
theorem takeAssert_live {s : State} (works : working s = true) (inv : BurstInv s) (queue : QueueSafe s) (a : Assert)
    {r : BurstRecord} (held : r ∈ s.bursts.records) (live : r.state ≠ .closed) :
    let t := (takeAssert a s).2
    (takeAssert a s).1 = r.number ∧ t.bursts = joinedTable r (joinedRecord r a s) s
      ∧ t.notices = (if BurstRecord.reopens r then (postBurst .burstReopened (r.takeAssert s a) s).notices else s.notices)
      ∧ t.shift.current.summary.bursts = s.shift.current.summary.bursts ∧ FaultTaken s a r.counted t := by
  rw [takeAssert_joins inv a held live]
  exact ⟨rfl, takenState_bursts _ _ _ _, rfl, takenState_summary_bursts _ _ _ _,
    takenState_faultTaken works queue _ _ _ _ _⟩

/-- A record that an assert opened (R92, R100). -/
theorem takeAssert_placed {s : State} (works : working s = true) (inv : BurstInv s) (queue : QueueSafe s) (a : Assert)
    {kept : List BurstRecord} (closed : ∀ r ∈ s.bursts.records, r.state = .closed)
    (place : makePlace s.bursts.records = some kept) :
    let number := freeNumber kept 33 s.bursts.nextNumber
    let t := (takeAssert a s).2
    (takeAssert a s).1 = number ∧ t.bursts = openedTable kept (openedRecord number a s) s ∧ t.notices = s.notices
      ∧ t.shift.current.summary.bursts = satSucc top32 s.shift.current.summary.bursts ∧ FaultTaken s a 0 t := by
  rw [takeAssert_opens inv a closed place]
  exact ⟨rfl, takenState_bursts _ _ _ _, rfl, takenState_summary_bursts _ _ _ _,
    takenState_faultTaken works queue _ _ _ _ _⟩

/-- The newest record that an assert joined for want of a place (R93, R100). -/
theorem takeAssert_crowded {s : State} (works : working s = true) (inv : BurstInv s) (queue : QueueSafe s) (a : Assert)
    {r : BurstRecord} (closed : ∀ r ∈ s.bursts.records, r.state = .closed)
    (place : makePlace s.bursts.records = none) (last : s.bursts.records.getLast? = some r) :
    let t := (takeAssert a s).2
    (takeAssert a s).1 = r.number ∧ t.bursts = joinedTable r (overflowRecord r a s) s
      ∧ t.notices = (postBurst .burst (r.takeAssert s a) s).notices
      ∧ t.shift.current.summary.bursts = s.shift.current.summary.bursts ∧ FaultTaken s a r.counted t := by
  rw [takeAssert_overflows inv a closed place last]
  exact ⟨rfl, takenState_bursts _ _ _ _, rfl, takenState_summary_bursts _ _ _ _,
    takenState_faultTaken works queue _ _ _ _ _⟩

section
variable {records : List BurstRecord}

/-- A free place, or a record that may go, makes a place (R92). -/
theorem makePlace_of_spare (closed : ∀ r ∈ records, r.state = .closed)
    (spare : records.length < 32 ∨ ∃ r ∈ records, r.ack ≠ none) : ∃ kept, makePlace records = some kept := by
  cases place : makePlace records with
  | some kept => exact ⟨kept, rfl⟩
  | none =>
    obtain ⟨full, unspared⟩ := makePlace_none closed place
    rcases spare with room | ⟨r, held, spare⟩
    · exact absurd room full
    · exact absurd spare (unspared r held)

/-- A full table of records that stay makes none (R93). -/
theorem makePlace_of_crowded (few : records.length ≤ 32) (closed : ∀ r ∈ records, r.state = .closed)
    (full : ¬ records.length < 32) (unspared : ∀ r ∈ records, ¬ r.ack ≠ none) : makePlace records = none := by
  cases place : makePlace records with
  | none => rfl
  | some kept =>
    obtain ⟨_, _, without⟩ := makePlace_some few closed place
    obtain ⟨before, r, after, split, spare, _⟩ := without full
    exact absurd spare (unspared r (split ▸ List.mem_append_right before List.mem_cons_self))

/-- A full table has a newest record. -/
theorem newest_of_full (full : ¬ records.length < 32) : ∃ init r, records = init ++ [r] := by
  obtain ⟨init, r, split⟩ := (List.eq_nil_or_concat records).resolve_left fun empty => full (by simp [empty])
  exact ⟨init, r, by simpa using split⟩

end

/-- The records that hold are as many among those kept for a new one (R92, R101). -/
theorem makePlace_countP {records kept : List BurstRecord} (few : records.length ≤ 32)
    (closed : ∀ r ∈ records, r.state = .closed) (place : makePlace records = some kept) :
    kept.countP BurstRecord.holds = records.countP BurstRecord.holds := by
  obtain ⟨_, whole, without⟩ := makePlace_some few closed place
  by_cases room : records.length < 32
  · rw [whole room]
  · obtain ⟨before, r, after, split, acknowledged, _, rest⟩ := without room
    rw [rest, split]
    exact countP_kept acknowledged

/-- Whatever becomes of an assert, the hold count of the table it leaves is the number of the records that hold (R101). -/
theorem takeAssert_taken {s : State} (inv : BurstInv s) (a : Assert) :
    ∃ b bursts u n, (takeAssert a s).2 = takenState b bursts u n s
      ∧ b.holdCount = b.records.countP BurstRecord.holds := by
  by_cases live : ∃ r ∈ s.bursts.records, r.state ≠ .closed
  · obtain ⟨r, held, live⟩ := live
    exact ⟨_, _, _, _, congrArg Prod.snd (takeAssert_joins inv a held live),
      joinedTable_holdCount inv held rfl joinedRecord_holds⟩
  · have closed : ∀ r ∈ s.bursts.records, r.state = .closed := by simpa using live
    obtain ⟨few, _⟩ := id inv
    cases place : makePlace s.bursts.records with
    | some kept =>
      exact ⟨_, _, _, _, congrArg Prod.snd (takeAssert_opens inv a closed place),
        openedTable_holdCount inv (makePlace_countP few closed place)⟩
    | none =>
      obtain ⟨full, _⟩ := makePlace_none closed place
      obtain ⟨init, r, split⟩ := newest_of_full full
      have last : s.bursts.records.getLast? = some r := by rw [split, List.getLast?_concat]
      exact ⟨_, _, _, _, congrArg Prod.snd (takeAssert_overflows inv a closed place last),
        joinedTable_holdCount inv (List.mem_of_getLast? last) rfl overflowRecord_holds⟩

/-! ### A qualified assert's blocks and score (R71, R84) -/

section
variable {i : Fin 16} {c : Capture} {s : State}

/-- The score after a fast repeat (R71). -/
theorem scoreAfter_fast (fast : fastRepeat s i c = true) :
    scoreAfter s i c = if (s.inputs.get i).score < 32 then (s.inputs.get i).score + 1 else (s.inputs.get i).score :=
  if_pos fast

theorem scoreAfter_slow (slow : ¬ fastRepeat s i c = true) : scoreAfter s i c = (s.inputs.get i).score - 1 := if_neg slow

/-- The score moves neither the shift nor the units nor the store: these are as the entry left them. -/
theorem qualifyAssert_blocks (due : qualified .qualifying i s = some c) :
    let t := qualifyAssert i s
    let m := makeAssert i c.stamp false s
    t.shift = m.shift ∧ t.units = m.units ∧ t.store = m.store := by
  dsimp only
  rw [qualifyAssert_eq due]
  have scored := scoreInput_touches i (scoreAfter s i c) .active (assertedState i c s)
  exact ⟨scored.same .shift, scored.same .units, scored.same .store⟩

/-- Below the top of the score the entry is the last that was made (R71, R84). -/
theorem qualifyAssert_below (due : qualified .qualifying i s = some c) (below : scoreAfter s i c < chatterTop) :
    let t := qualifyAssert i s
    let m := makeAssert i c.stamp false s
    t.log = m.log ∧ t.bursts = m.bursts ∧ t.notices = m.notices := by
  dsimp only
  rw [qualifyAssert_eq due, scoreInput_below below]
  exact ⟨rfl, rfl, rfl⟩

/-- At the top the input is blocked, with an entry after that of the assert (R72). -/
theorem qualifyAssert_top (due : qualified .qualifying i s = some c) (top : chatterTop ≤ scoreAfter s i c) :
    let t := qualifyAssert i s
    let m := makeAssert i c.stamp false s
    t.log.nextSeq = m.log.nextSeq + 1
      ∧ t.log.ring.getLast?.map (fun e => e.body) = some (.chatterBlock i (s.settings.inputs.inputs.get i).unit)
      ∧ t.bursts = { m.bursts with records := t.bursts.records } := by
  obtain ⟨_, next, last, bursts⟩ := scoreInput_blocks (i := i) (below := .active) (s := assertedState i c s) top
  dsimp only
  rw [qualifyAssert_eq due, next, last, assertedState_settings]
  exact ⟨rfl, rfl, bursts⟩

/-- The input after a qualified assert. -/
theorem qualifyAssert_own (due : qualified .qualifying i s = some c) :
    (qualifyAssert i s).inputs.get i = qualifiedInput i c s := by
  rw [qualifyAssert_inputs_eq due, Bank.get_set_same]

theorem qualifyAssert_other {j : Fin 16} (due : qualified .qualifying i s = some c) (other : j ≠ i) :
    (qualifyAssert i s).inputs.get j = s.inputs.get j := by
  rw [qualifyAssert_inputs_eq due, Bank.get_set_other _ _ _ _ (Ne.symm other)]

/-- A qualified release ends in IDLE, after its entry when releases are logged (R68, R70). -/
theorem qualifyRelease_silent (due : qualified .releasing i s = some c)
    (silent : (s.settings.inputs.inputs.get i).logReleases = false) :
    qualifyRelease i s = s.withInput i { s.inputs.get i with state := .idle, capture := none } := by
  simp only [qualifyRelease, due, silent]
  rfl

theorem qualifyRelease_logged (due : qualified .releasing i s = some c)
    (logged : (s.settings.inputs.inputs.get i).logReleases = true) :
    let x := s.settings.inputs.inputs.get i
    let t := qualifyRelease i s
    let m := makeEntry (.tripRelease i x.unit x.code) c.stamp s
    t.log = m.log ∧ t.bursts = m.bursts := by
  simp only [qualifyRelease, due, logged, if_true]
  exact ⟨rfl, rfl⟩

end

/-- Settles O41: the assert by its score and its entry, the Burst Table by the state of its records, the release by its
setting. -/
theorem qualifiedEdgesAreLogged : Obligations.QualifiedEdgesAreLogged := by
  unfold Obligations.QualifiedEdgesAreLogged
  refine ⟨?_, ?_, ?_⟩
  · intro i c s works state captured elapsed old fast taken
    have due := qualified_of works state captured elapsed
    have own := qualifyAssert_own due
    have score : (qualifiedInput i c s).score = scoreAfter s i c := rfl
    have repeats : fastRepeat s i c = true ↔ fast := fastRepeat_iff s i c
    obtain ⟨shift, units, store⟩ := qualifyAssert_blocks due
    obtain ⟨current, asserts⟩ := makeAssert_current i c.stamp false s
    obtain ⟨bursts, notices, unitsTaken, storeTaken, hold⟩ := makeAssert_blocks i c.stamp false s
    have frame := qualifyAssert_touches i s
    refine ⟨qualifyAssert i s, rfl, ?_⟩
    rw [own, score, shift]
    refine ⟨rfl, rfl, fun quick => scoreAfter_fast (repeats.2 quick), fun slow => scoreAfter_slow (mt repeats.1 slow),
      fun j other => qualifyAssert_other due other, current, asserts, fun below => ?_, fun top => ?_,
      ⟨units.trans unitsTaken, store.trans storeTaken, hold⟩, frame.same .clk, frame.same .mq, frame.same .tl,
      frame.same .settings, frame.same .pins, frame.same .supply⟩
    · obtain ⟨log, table, posted⟩ := qualifyAssert_below due below
      rw [log, table, posted, makeAssert_nextSeq, makeAssert_getLast, bursts, notices]
      exact ⟨if_neg (by unfold chatterTop; omega), rfl, rfl, rfl, taken.1, rfl, rfl, takeAssert_held _ _⟩
    · obtain ⟨next, last, table⟩ := qualifyAssert_top due top
      rw [makeAssert_nextSeq, BitVec.add_assoc] at next
      rw [bursts] at table
      exact ⟨if_pos top, next, last, table⟩
  · intro a s works inv queue has trips acts bit member grown number t joined posted fault bursts
    have htrips : trips = (matchedActions s a.unit a.code).faultTrip := by rw [matchedActions_eq]; rfl
    have hacts : acts = matchedActions s a.unit a.code := by rw [matchedActions_eq]; rfl
    have hgrown : grown = countedAfter s a := by
      funext c
      rw [countedAfter_eq, ← htrips]
    have hjoined : joined = fun r => r.takeAssert s a := by
      funext r
      show _ = ({ r with
        asserts := satSucc top32 r.asserts, units := r.units ||| unitBit a.unit
        actions := r.actions.join (matchedActions s a.unit a.code), counted := countedAfter s a r.counted } : BurstRecord)
      rw [← hacts, ← hgrown]
      rfl
    have hfault : fault = fun counted => FaultTaken s a counted t := by
      funext counted
      unfold FaultTaken CountsFault
      rw [← htrips]
      rfl
    have hposted : posted = fun k r => t.notices = (postBurst k (r.takeAssert s a) s).notices := by
      funext k r
      rw [← congrFun hjoined r]
      rfl
    clear_value fault posted joined grown
    subst hfault hposted hjoined hgrown
    clear_value acts
    subst hacts
    obtain ⟨few, distinct, _⟩ := id inv
    refine ⟨fun r held live => ?_, fun closed => ⟨fun spare => ?_, fun full unspared => ?_⟩, ?_⟩
    · intro reopens d ahead earlier
      obtain ⟨joins, table, notices, summary, faults⟩ := takeAssert_live works inv queue a held live
      refine ⟨⟨(joinedRecord r a s).firstOut, ?_, joinedRecord_firstOut r a s⟩, joins,
        (congrArg BurstTable.openRef table).trans rfl, (congrArg BurstTable.nextNumber table).trans rfl,
        fun again => notices.trans (if_pos (reopens_iff.2 again)),
        fun idle => notices.trans (if_neg fun again => idle (reopens_iff.1 again)), summary, faults⟩
      rw [← joinedRecord_eq]
      exact (congrArg BurstTable.records table).trans rfl
    · obtain ⟨kept, place⟩ := makePlace_of_spare closed spare
      obtain ⟨opens, table, notices, summary, faults⟩ := takeAssert_placed works inv queue a closed place
      obtain ⟨places, whole, without⟩ := makePlace_some few closed place
      obtain ⟨free, search⟩ := freeNumber_free places s.bursts.nextNumber
      rw [← opens] at table free search
      exact ⟨kept, whole, without, congrArg BurstTable.records table, free, search, congrArg BurstTable.openRef table,
        congrArg BurstTable.nextNumber table, notices, summary, faults⟩
    · obtain ⟨init, r, split⟩ := newest_of_full full
      have last : s.bursts.records.getLast? = some r := by rw [split, List.getLast?_concat]
      obtain ⟨joins, table, notices, summary, faults⟩ :=
        takeAssert_crowded works inv queue a closed (makePlace_of_crowded few closed full unspared) last
      have put := put_records_split (b := s.bursts) (new := overflowRecord r a s) split distinct rfl
      exact ⟨init, r, split, joins, (congrArg BurstTable.records table).trans put,
        (congrArg BurstTable.openRef table).trans (openRef_of_closed inv closed),
        (congrArg BurstTable.nextNumber table).trans rfl, notices, summary, faults⟩
    · obtain ⟨b, n, u, x, taken, count⟩ := takeAssert_taken inv a
      have frame := takenState_frame b n x u works queue
      dsimp only at frame
      rw [← taken] at frame
      have held := takenState_holdCount (bursts := n) (u := u) (n := x) (s := s) count
      rw [← taken] at held
      exact ⟨held, frame⟩
  · intro i c s works state captured elapsed x
    have due := qualified_of works state captured elapsed
    refine ⟨fun silent => congrArg Host.Outcome.next (qualifyRelease_silent due silent), fun logged => ?_⟩
    obtain ⟨log, bursts⟩ := qualifyRelease_logged due logged
    have frame := qualifyRelease_touches i s
    have table := makeEntry_bursts (.tripRelease i x.unit x.code) c.stamp s
    refine ⟨qualifyRelease i s, rfl, qualifyRelease_inputs_eq due, ?_, ?_, frame.same .clk, frame.same .shift,
      frame.same .units, frame.same .settings, frame.same .store, frame.same .pins, ?_, ?_⟩
    · rw [log, makeEntry_nextSeq]
    · rw [log, makeEntry_getLast]
    · rw [bursts, table]
    · rw [bursts, table]

end Sys2Proof.Machine.InputLaws
end

section
/-! SUPPORT. The ring and the cursors as an entry joins (R84 to R86): what the removal makes of each port, and that the numbers of
the ring stay consecutive. -/

namespace Sys2Proof.Machine.TripLaws

open LineLaws InputLaws

set_option Elab.async false

/-! ### What the removal makes of a port (R86) -/

/-- What the Trip Log and the Notice Controller hold of a port. -/
structure PortLog where
  cursor : BitVec 16
  missed : Nat
  notices : Notices

def portLog (s : State) (q : Port) : PortLog :=
  { cursor := s.log.cursors.get q, missed := s.log.missed.get q, notices := s.notices.get q }

/-- A LOG_OVERRUN posted to a port is taken (R201). -/
def tellsOverrun (s : State) (q : Port) : Bool := working s && hasKind (s.settings.notice.get q).enable .logOverrun

/-- A port whose cursor stood at the entry of a number loses that entry; another is as it was (R86). -/
def PortLog.lose (x : PortLog) (removed : BitVec 16) (told : Bool) : PortLog :=
  if x.cursor = removed then
    { cursor := removed + 1
      missed := satSucc top16 x.missed
      notices :=
        if told then { x.notices with pending := x.notices.pending ||| NoticeKind.logOverrun.bit }.refresh else x.notices }
  else x

theorem PortLog.lose_own {x : PortLog} {removed : BitVec 16} (told : Bool) (here : x.cursor = removed) :
    x.lose removed told =
      { cursor := removed + 1
        missed := satSucc top16 x.missed
        notices :=
          if told then { x.notices with pending := x.notices.pending ||| NoticeKind.logOverrun.bit }.refresh
          else x.notices } := if_pos here

theorem PortLog.lose_other {x : PortLog} {removed : BitVec 16} (told : Bool) (elsewhere : x.cursor ≠ removed) :
    x.lose removed told = x := if_neg elsewhere

theorem portLog_congr {s t : State} (log : t.log = s.log) (notices : t.notices = s.notices) (q : Port) :
    portLog t q = portLog s q := by simp only [portLog, log, notices]

theorem tellsOverrun_of_touches {bs : List Block} {s t : State} (h : Touches bs s t) (q : Port)
    (supply : .supply ∉ bs := by decide) (settings : .settings ∉ bs := by decide) : tellsOverrun t q = tellsOverrun s q := by
  have same : t.settings = s.settings := h.same .settings settings
  rw [tellsOverrun, tellsOverrun, working_congr (h.same .supply supply), same]

theorem moveCursor_notices (n : BitVec 16) (s : State) (p : Port) :
    (moveCursor n s p).notices =
      if s.log.cursors.get p = n ∧ tellsOverrun s p = true then
        s.notices.set p
          { s.notices.get p with pending := (s.notices.get p).pending ||| NoticeKind.logOverrun.bit }.refresh
      else s.notices := by
  unfold moveCursor tellsOverrun
  simp only [Bool.and_eq_true]
  by_cases here : s.log.cursors.get p = n
  · rw [if_pos here]
    simp only [here, true_and]
    exact postTo_notices _ p _
  · simp [here]

theorem portLog_moveCursor_own (n : BitVec 16) (s : State) (p : Port) :
    portLog (moveCursor n s p) p = (portLog s p).lose n (tellsOverrun s p) := by
  unfold portLog PortLog.lose
  rw [moveCursor_log, moveCursor_notices]
  by_cases here : s.log.cursors.get p = n
  · by_cases told : tellsOverrun s p = true <;> simp [here, told]
  · simp [here]

theorem portLog_moveCursor_other {n : BitVec 16} {s : State} {p q : Port} (other : p ≠ q) :
    portLog (moveCursor n s p) q = portLog s q := by
  unfold portLog
  rw [moveCursor_log, moveCursor_notices]
  congr 1
  · split <;> simp [other]
  · split <;> simp [other]
  · split <;> simp [other]

/-- The three cursors moved from a removed entry (R86). -/
def moveCursors (n : BitVec 16) (s : State) : State := moveCursor n (moveCursor n (moveCursor n s .a) .b) .c

theorem moveCursors_touches (n : BitVec 16) (s : State) : Touches [.log, .notices] s (moveCursors n s) :=
  (moveCursor_touches _ _ _).after ((moveCursor_touches _ _ _).after (moveCursor_touches _ _ _))

theorem moveCursors_ring (n : BitVec 16) (s : State) : (moveCursors n s).log.ring = s.log.ring := by
  rw [moveCursors, moveCursor_ring, moveCursor_ring, moveCursor_ring]

theorem moveCursors_nextSeq (n : BitVec 16) (s : State) : (moveCursors n s).log.nextSeq = s.log.nextSeq := by
  rw [moveCursors, moveCursor_nextSeq, moveCursor_nextSeq, moveCursor_nextSeq]

theorem portLog_moveCursors (n : BitVec 16) (s : State) (q : Port) :
    portLog (moveCursors n s) q = (portLog s q).lose n (tellsOverrun s q) := by
  have told : ∀ (t : State) (p : Port), tellsOverrun (moveCursor n t p) q = tellsOverrun t q := fun t p =>
    tellsOverrun_of_touches (moveCursor_touches n t p) q
  unfold moveCursors
  cases q with
  | a => rw [portLog_moveCursor_other (by decide), portLog_moveCursor_other (by decide), portLog_moveCursor_own]
  | b => rw [portLog_moveCursor_other (by decide), portLog_moveCursor_own, portLog_moveCursor_other (by decide), told]
  | c => rw [portLog_moveCursor_own, portLog_moveCursor_other (by decide), portLog_moveCursor_other (by decide), told, told]

/-! ### The removal of the oldest entry (R85) -/

/-- A ring with room loses nothing. -/
theorem removeOldest_of_room {s : State} (room : s.log.ring.length < Config.ringSize) : removeOldest s = s := by
  unfold removeOldest
  split
  · rfl
  · exact if_pos room

/-- A full ring loses its oldest entry. -/
theorem removeOldest_of_full {s : State} {old : LogEntry} {rest : List LogEntry} (ring : s.log.ring = old :: rest)
    (full : ¬ s.log.ring.length < Config.ringSize) :
    removeOldest s = moveCursors old.seq (flagLost old { s with log := { s.log with ring := rest } }) := by
  unfold removeOldest
  rw [ring] at full ⊢
  exact if_neg full

section
variable {s : State} {old : LogEntry} {rest : List LogEntry} (ring : s.log.ring = old :: rest)
  (full : ¬ s.log.ring.length < Config.ringSize)
include ring full

theorem removeOldest_ring : (removeOldest s).log.ring = rest := by
  rw [removeOldest_of_full ring full, moveCursors_ring, flagLost_log]

theorem portLog_removeOldest (q : Port) :
    portLog (removeOldest s) q = (portLog s q).lose old.seq (tellsOverrun s q) := by
  have flagged := flagLost_touches old { s with log := { s.log with ring := rest } }
  rw [removeOldest_of_full ring full, portLog_moveCursors,
    portLog_congr (flagged.same .log) (flagged.same .notices), tellsOverrun_of_touches flagged]
  rfl

/-- The Burst Table after the removal is the one that the removed entry's flag leaves. -/
theorem removeOldest_flags : (removeOldest s).bursts = (flagLost old s).bursts := by
  rw [removeOldest_of_full ring full, (moveCursors_touches _ _).same .bursts]
  unfold flagLost
  split <;> rfl

end

/-! ### Consecutive numbers (R84) -/

/-- A log of at most `most` entries with consecutive numbers up to the newest, every cursor at one of them or at the newest
end. -/
def RingFits (most : Nat) (l : TripLog) : Prop :=
  l.ring.length ≤ most
    ∧ l.ring.map (fun e => e.seq)
        = (List.range l.ring.length).map (fun k => l.nextSeq - BitVec.ofNat 16 l.ring.length + BitVec.ofNat 16 k)
    ∧ ∀ p, (l.nextSeq - l.cursors.get p).toNat ≤ l.ring.length

theorem logInv_iff (s : State) : LogInv s ↔ RingFits 1024 s.log := Iff.rfl

theorem ofNat_succ (n : Nat) : BitVec.ofNat 16 (n + 1) = BitVec.ofNat 16 n + 1 := BitVec.ofNat_add n 1

/-- The oldest number, and the numbers of the entries after it. -/
theorem numbers_cons {l : TripLog} {old : LogEntry} {rest : List LogEntry}
    (numbers : l.ring.map (fun e => e.seq)
      = (List.range l.ring.length).map fun k => l.nextSeq - BitVec.ofNat 16 l.ring.length + BitVec.ofNat 16 k)
    (ring : l.ring = old :: rest) :
    old.seq = l.nextSeq - BitVec.ofNat 16 (rest.length + 1)
      ∧ rest.map (fun e => e.seq)
          = (List.range rest.length).map fun k => l.nextSeq - BitVec.ofNat 16 rest.length + BitVec.ofNat 16 k := by
  rw [ring, List.length_cons, List.range_succ_eq_map, List.map_cons, List.map_cons, List.map_map] at numbers
  obtain ⟨first, others⟩ := List.cons.inj numbers
  refine ⟨by simpa using first, others.trans (List.map_congr_left fun k _ => ?_)⟩
  simp only [Function.comp_apply, Nat.succ_eq_add_one, ofNat_succ]
  ring

/-- A ring that is full loses its oldest entry, and the cursors there follow. -/
theorem removeOldest_fits {s : State} (fits : RingFits 1024 s.log) : RingFits 1023 (removeOldest s).log := by
  by_cases room : s.log.ring.length < Config.ringSize
  · rw [removeOldest_of_room room]
    obtain ⟨_, numbers, cursors⟩ := fits
    exact ⟨Nat.le_of_lt_succ room, numbers, cursors⟩
  · obtain ⟨most, numbers, cursors⟩ := fits
    have size : Config.ringSize = 1024 := rfl
    obtain ⟨old, rest, ring⟩ := List.exists_cons_of_length_pos (l := s.log.ring) (by omega)
    have length : rest.length = 1023 := by
      have whole := congrArg List.length ring
      rw [List.length_cons] at whole
      omega
    obtain ⟨first, others⟩ := numbers_cons numbers ring
    refine ⟨?_, ?_, fun p => ?_⟩
    · rw [removeOldest_ring ring room, length]
    · rw [removeOldest_ring ring room, removeOldest_nextSeq]
      exact others
    · have moved : (removeOldest s).log.cursors.get p = _ :=
        congrArg PortLog.cursor (portLog_removeOldest ring room p)
      have before : (s.log.nextSeq - s.log.cursors.get p).toNat ≤ 1024 := (cursors p).trans most
      rw [length] at first
      rw [removeOldest_ring ring room, removeOldest_nextSeq, moved, length]
      unfold PortLog.lose portLog
      split
      next here => bv_omega
      next elsewhere => bv_omega

/-- An entry of the next number joins a ring with room. -/
theorem ringFits_join {l : TripLog} {e : LogEntry} (fits : RingFits 1023 l) (number : e.seq = l.nextSeq) :
    RingFits 1024 { l with ring := l.ring ++ [e], nextSeq := l.nextSeq + 1 } := by
  obtain ⟨most, numbers, cursors⟩ := fits
  refine ⟨?_, ?_, fun p => ?_⟩
  · rw [List.length_append, List.length_singleton]
    omega
  · have shift : ∀ k, l.nextSeq + 1 - (BitVec.ofNat 16 l.ring.length + 1) + BitVec.ofNat 16 k
        = l.nextSeq - BitVec.ofNat 16 l.ring.length + BitVec.ofNat 16 k := fun k => by ring
    simp only [List.map_append, List.map_singleton, numbers, number, List.length_append, List.length_singleton,
      List.range_succ, ofNat_succ, shift, BitVec.sub_add_cancel]
  · have before := cursors p
    show (l.nextSeq + 1 - l.cursors.get p).toNat ≤ (l.ring ++ [e]).length
    rw [List.length_append, List.length_singleton]
    bv_omega

theorem makeEntry_logInv (b : EntryBody) (x : FullStamp) {s : State} (hs : LogInv s) : LogInv (makeEntry b x s) :=
  ringFits_join (removeOldest_fits hs) rfl

theorem makeAssert_logInv (i : Fin 16) (x : FullStamp) (resumed : Bool) {s : State} (hs : LogInv s) :
    LogInv (makeAssert i x resumed s) := by
  have joined := ringFits_join (e := assertEntry i x resumed (takeAssert (assertOf i x s) (removeOldest s)).1 s)
    (removeOldest_fits hs) (removeOldest_nextSeq s).symm
  rw [removeOldest_nextSeq] at joined
  rw [makeAssert_eq]
  exact joined

end Sys2Proof.Machine.TripLaws
end

section
/-! PROOF. An entry joins the ring at its newest end (O42): with room for it, and where the oldest is lost. -/

namespace Sys2Proof.Machine.TripLaws

open LineLaws InputLaws

set_option Elab.async false

/-- The entry that is made next (R84). -/
def entryOf (b : EntryBody) (x : FullStamp) (s : State) : LogEntry :=
  { seq := s.log.nextSeq, stamp := x, shift := s.shift.current.number, body := b }

/-- What an entry leaves is what the removal left, with the entry at the newest end. -/
theorem makeEntry_eq (b : EntryBody) (x : FullStamp) (s : State) :
    makeEntry b x s =
      { removeOldest s with log := { (removeOldest s).log with
          nextSeq := s.log.nextSeq + 1, ring := (removeOldest s).log.ring ++ [entryOf b x s] } } := by
  rw [entryOf, ← removeOldest_nextSeq s, ← removeOldest_shift s]
  rfl

theorem makeEntry_ring (b : EntryBody) (x : FullStamp) (s : State) :
    (makeEntry b x s).log.ring = (removeOldest s).log.ring ++ [entryOf b x s] := by rw [makeEntry_eq]

theorem portLog_makeEntry (b : EntryBody) (x : FullStamp) (s : State) (q : Port) :
    portLog (makeEntry b x s) q = portLog (removeOldest s) q := rfl

/-- With a kind in it a pending set asserts the line unless a holdoff runs (R202). -/
theorem refresh_or_bit (n : Notices) (k : NoticeKind) :
    { n with pending := n.pending ||| k.bit }.refresh =
      { pending := n.pending ||| k.bit, holdoff := n.holdoff, attention := n.holdoff.isNone } := by
  have held : n.pending ||| k.bit ≠ 0 := fun empty => by
    have stands := hasKind_or_bit n.pending k
    rw [empty] at stands
    simp [hasKind] at stands
  simp only [Notices.refresh, decide_eq_true held, Bool.and_true]

/-- The oldest number of a full ring (R84). -/
theorem oldest_of_full {s : State} {old : LogEntry} {rest : List LogEntry} (hs : LogInv s)
    (full : s.log.ring.length = 1024) (ring : s.log.ring = old :: rest) : old.seq = s.log.nextSeq - 1024 := by
  obtain ⟨_, numbers, _⟩ := hs
  obtain ⟨first, _⟩ := numbers_cons numbers ring
  rw [← List.length_cons (a := old), ← ring, full] at first
  exact first

/-- A removed TRIP_ASSERT flags the UNACKNOWLEDGED record of its number (R85). -/
theorem flagLost_tripAssert {e : LogEntry} {i : Fin 16} {u : UnitSel} {code : BitVec 6} {number : BitVec 16} {resumed : Bool}
    (s : State) (body : e.body = .tripAssert i u code number resumed) :
    (flagLost e s).bursts = { s.bursts with records := s.bursts.records.map fun r =>
      if r.number = number ∧ r.ack = none then { r with lostEntries := true } else r } := by
  unfold flagLost
  rw [body]

theorem flagLost_other {e : LogEntry} (s : State)
    (body : ∀ i u code number resumed, e.body ≠ .tripAssert i u code number resumed) : flagLost e s = s := by
  unfold flagLost
  split
  next i u code number resumed is => exact absurd is (body i u code number resumed)
  next => rfl

/-- Settles O42, by whether the ring is full, and then port by port. -/
theorem anEntryJoinsTheRing : Obligations.AnEntryJoinsTheRing := by
  unfold Obligations.AnEntryJoinsTheRing
  intro body stamp s hs
  have frame := makeEntry_touches body stamp s
  refine ⟨makeEntry_nextSeq body stamp s, fun room => ?_, fun old rest length ring => ?_, frame.same .clk,
    frame.same .inputs, frame.same .units, frame.same .store, frame.same .shift, frame.same .settings⟩
  · rw [makeEntry_eq, removeOldest_of_room room]
    exact ⟨rfl, rfl, rfl, rfl, rfl⟩
  · have full : ¬ s.log.ring.length < Config.ringSize := by
      rw [length]
      decide
    have oldest := oldest_of_full hs length ring
    have table : (makeEntry body stamp s).bursts = (flagLost old s).bursts := by
      rw [makeEntry_eq]
      exact removeOldest_flags ring full
    refine ⟨?_, fun p => ?_, fun i u code number resumed is => ?_, fun other => ?_⟩
    · rw [makeEntry_ring, removeOldest_ring ring full]
      rfl
    · have moved := (portLog_makeEntry body stamp s p).trans (portLog_removeOldest ring full p)
      rw [oldest] at moved
      refine ⟨fun here => ?_, fun elsewhere => ?_⟩
      · rw [PortLog.lose_own _ here] at moved
        injection moved with cursor missed notices
        refine ⟨cursor.trans (by bv_omega), missed, notices.trans ?_⟩
        rw [refresh_or_bit, tellsOverrun]
        simp only [Bool.and_eq_true]
        rfl
      · rw [PortLog.lose_other _ elsewhere] at moved
        injection moved with cursor missed notices
        exact ⟨cursor, missed, notices⟩
    · exact table.trans (flagLost_tripAssert s is)
    · rw [table, flagLost_other s other]

end Sys2Proof.Machine.TripLaws
end

section
/-! SUPPORT. The Burst Table in step (R91, R92, R101): what keeps it so when records are rewritten, added and closed, and the
operations of the table that do these. -/

namespace Sys2Proof.Machine.TripLaws

open LineLaws InputLaws

set_option Elab.async false

/-! ### The table by itself (R91, R92, R101) -/

/-- The table holds at most 32 records of different numbers, its reference names the one that is not CLOSED, and its hold count
is the number of those that hold. -/
def TableFits (b : BurstTable) : Prop :=
  b.records.length ≤ Config.burstPlaces ∧ (b.records.map fun r => r.number).Nodup
    ∧ (∀ r ∈ b.records, r.state ≠ .closed → b.openRef = some r.number)
    ∧ (∀ n ∈ b.openRef, ∃ r ∈ b.records, r.number = n ∧ r.state ≠ .closed)
    ∧ b.holdCount = b.records.countP BurstRecord.holds

theorem burstInv_iff (s : State) :
    BurstInv s ↔
      TableFits s.bursts ∧ s.shift.holdCount = s.bursts.holdCount ∧ (working s = false → s.bursts.openRef = none) := by
  simp only [BurstInv, TableFits, and_assoc]

/-- The table that an invariant state holds. -/
theorem tableFits_of_inv {s : State} (inv : BurstInv s) : TableFits s.bursts := by
  obtain ⟨table, _⟩ := (burstInv_iff s).1 inv
  exact table

theorem unique_of_number {b : BurstTable} (fits : TableFits b) {x y : BurstRecord} (hx : x ∈ b.records) (hy : y ∈ b.records)
    (number : x.number = y.number) : x = y := by
  obtain ⟨_, distinct, _⟩ := fits
  exact List.inj_on_of_nodup_map distinct hx hy number

/-- Records rewritten with their numbers, and as CLOSED as before. -/
theorem tableFits_map {b c : BurstTable} {f : BurstRecord → BurstRecord} (fits : TableFits b)
    (records : c.records = b.records.map f) (number : ∀ r, (f r).number = r.number)
    (live : ∀ r ∈ b.records, ((f r).state = .closed ↔ r.state = .closed)) (ref : c.openRef = b.openRef)
    (count : c.holdCount = c.records.countP BurstRecord.holds) : TableFits c := by
  obtain ⟨few, distinct, referred, refers, _⟩ := fits
  refine ⟨?_, ?_, fun x held open_ => ?_, fun n named => ?_, count⟩
  · rw [records, List.length_map]
    exact few
  · rw [records, List.map_map]
    exact (List.map_congr_left (fun r _ => number r) : b.records.map _ = b.records.map _) ▸ distinct
  · rw [records] at held
    obtain ⟨r, was, rfl⟩ := List.mem_map.1 held
    rw [ref, number]
    exact referred r was fun closed => open_ ((live r was).2 closed)
  · rw [ref] at named
    obtain ⟨r, held, is, open_⟩ := refers n named
    refine ⟨f r, ?_, (number r).trans is, fun closed => open_ ((live r held).1 closed)⟩
    rw [records]
    exact List.mem_map_of_mem held

/-- Writing back a record keeps every number. -/
theorem number_put (new r : BurstRecord) : (if r.number = new.number then new else r).number = r.number := by
  split
  next same => exact same.symm
  next => rfl

/-- A record written back, as CLOSED as before. -/
theorem tableFits_put {b c : BurstTable} {old new : BurstRecord} (fits : TableFits b) (held : old ∈ b.records)
    (number : new.number = old.number) (state : new.state = .closed ↔ old.state = .closed)
    (records : c.records = (b.put new).records) (ref : c.openRef = b.openRef)
    (count : c.holdCount = c.records.countP BurstRecord.holds) : TableFits c := by
  refine tableFits_map fits records (number_put new) (fun r heldToo => ?_) ref count
  split
  next same =>
    rw [unique_of_number fits heldToo held (same.trans number)]
    exact state
  next => rfl

/-- Records that hold as before are as many. -/
theorem countP_map_holds {f : BurstRecord → BurstRecord} {xs : List BurstRecord}
    (h : ∀ r ∈ xs, (f r).holds = r.holds) : (xs.map f).countP BurstRecord.holds = xs.countP BurstRecord.holds := by
  rw [List.countP_map]
  exact List.countP_congr fun r held => by rw [Function.comp_apply, h r held]

theorem countP_put_same {b : BurstTable} {old new : BurstRecord} (fits : TableFits b) (held : old ∈ b.records)
    (number : new.number = old.number) (same : new.holds = old.holds) :
    (b.put new).records.countP BurstRecord.holds = b.records.countP BurstRecord.holds := by
  refine countP_map_holds fun r heldToo => ?_
  split
  next is => rw [unique_of_number fits heldToo held (is.trans number), same]
  next => rfl

/-- With the one open record CLOSED, every record is. -/
theorem closed_of_put {b : BurstTable} {r : BurstRecord} (fits : TableFits b) (held : r ∈ b.records)
    (live : r.state ≠ .closed) : ∀ x ∈ (b.put { r with state := .closed }).records, x.state = .closed := by
  obtain ⟨_, _, referred, _⟩ := fits
  intro x heldToo
  obtain ⟨y, was, rfl⟩ := List.mem_map.1 heldToo
  split
  · rfl
  next other =>
    by_contra open_
    exact other (Option.some.inj ((referred y was open_).symm.trans (referred r held live)))

/-- The open record closes, and the reference is cleared (R97). -/
theorem tableFits_close {b : BurstTable} {r : BurstRecord} (fits : TableFits b) (held : r ∈ b.records)
    (live : r.state ≠ .closed) : TableFits { b.put { r with state := .closed } with openRef := none } := by
  have closed := closed_of_put fits held live
  have holds := countP_put_same (new := { r with state := .closed }) fits held rfl rfl
  obtain ⟨few, distinct, _, _, count⟩ := fits
  refine ⟨?_, ?_, fun x heldToo open_ => absurd (closed x heldToo) open_, nofun, count.trans holds.symm⟩
  · exact (List.length_map _).trans_le few
  · have numbers : (b.put { r with state := .closed }).records.map (fun x => x.number) = b.records.map fun x => x.number := by
      rw [BurstTable.put, List.map_map]
      exact List.map_congr_left fun x _ => number_put _ x
    rw [numbers]
    exact distinct

/-- A burst opens among records that are all CLOSED, with a number none of them bears (R92). -/
theorem tableFits_open {c : BurstTable} {kept : List BurstRecord} {r : BurstRecord} (room : kept.length < 32)
    (distinct : (kept.map fun x => x.number).Nodup) (closed : ∀ x ∈ kept, x.state = .closed)
    (fresh : ∀ x ∈ kept, x.number ≠ r.number) (live : r.state ≠ .closed) (records : c.records = kept ++ [r])
    (ref : c.openRef = some r.number) (count : c.holdCount = c.records.countP BurstRecord.holds) : TableFits c := by
  refine ⟨?_, ?_, fun x held open_ => ?_, fun n named => ?_, count⟩
  · rw [records, List.length_append, List.length_singleton]
    exact room
  · rw [records, List.map_append, List.map_singleton, List.nodup_append]
    refine ⟨distinct, List.nodup_singleton _, ?_⟩
    intro m borne n is
    obtain ⟨x, held, rfl⟩ := List.mem_map.1 borne
    rw [List.mem_singleton.1 is]
    exact fresh x held
  · rw [records] at held
    rcases List.mem_append.1 held with kept | own
    · exact absurd (closed x kept) open_
    · rw [List.mem_singleton.1 own, ref]
  · rw [ref] at named
    refine ⟨r, ?_, Option.some.inj named, live⟩
    rw [records]
    exact List.mem_append_right kept (List.mem_singleton.2 rfl)

/-! ### The open record (R91) -/

theorem openRecord_eq_some {s : State} (fits : TableFits s.bursts) (r : BurstRecord) :
    openRecord s = some r ↔ r ∈ s.bursts.records ∧ r.state ≠ .closed := by
  have unique := @unique_of_number _ fits
  obtain ⟨_, distinct, referred, refers, _⟩ := fits
  constructor
  · intro found
    obtain ⟨held, ref⟩ := openRef_number found
    obtain ⟨x, heldToo, number, live⟩ := refers r.number ref
    exact ⟨held, unique heldToo held number ▸ live⟩
  · rintro ⟨held, live⟩
    rw [openRecord, referred r held live, Option.bind_some, find_of_mem distinct held]

theorem openRef_of_openRecord_none {s : State} (fits : TableFits s.bursts) (none : openRecord s = none) :
    s.bursts.openRef = .none := by
  have open_ := openRecord_eq_some fits
  obtain ⟨_, _, _, refers, _⟩ := fits
  cases ref : s.bursts.openRef with
  | none => rfl
  | some n =>
    obtain ⟨r, held, _, live⟩ := refers n ref
    rw [(open_ r).2 ⟨held, live⟩] at none
    cases none

/-! ### What leaves the log and the table -/

/-- From `s` to `t` nothing changes that LogInv and BurstInv read, but that the part may begin to work. -/
def LeavesTrips (s t : State) : Prop :=
  t.log = s.log ∧ t.bursts = s.bursts ∧ t.shift.holdCount = s.shift.holdCount ∧ (working t = false → working s = false)

theorem LeavesTrips.refl (s : State) : LeavesTrips s s := ⟨rfl, rfl, rfl, id⟩

theorem LeavesTrips.trans {s t u : State} (h : LeavesTrips s t) (k : LeavesTrips t u) : LeavesTrips s u := by
  obtain ⟨log, bursts, hold, idle⟩ := h
  obtain ⟨log', bursts', hold', idle'⟩ := k
  exact ⟨log'.trans log, bursts'.trans bursts, hold'.trans hold, fun w => idle (idle' w)⟩

theorem leavesTrips_of_touches {bs : List Block} {s t : State} (h : Touches bs s t) (log : .log ∉ bs := by decide)
    (bursts : .bursts ∉ bs := by decide) (shift : .shift ∉ bs := by decide) (supply : .supply ∉ bs := by decide) :
    LeavesTrips s t := by
  have shifts : t.shift = s.shift := h.same .shift shift
  exact ⟨h.same .log log, h.same .bursts bursts, by rw [shifts], by rw [working_congr (h.same .supply supply)]; exact id⟩

/-- An operation of the other blocks, made after a part that leaves the log and the table. -/
theorem leavesTrips_after {bs : List Block} {s t u : State} (k : Touches bs t u) (h : LeavesTrips s t)
    (log : .log ∉ bs := by decide) (bursts : .bursts ∉ bs := by decide) (shift : .shift ∉ bs := by decide)
    (supply : .supply ∉ bs := by decide) : LeavesTrips s u := h.trans (leavesTrips_of_touches k log bursts shift supply)

/-- From `s` to `t` the log stays safe, and so does the Burst Table. -/
def KeepsTrips (s t : State) : Prop := (LogInv s → LogInv t) ∧ (BurstInv s → BurstInv t)

theorem KeepsTrips.refl (s : State) : KeepsTrips s s := ⟨id, id⟩

theorem KeepsTrips.trans {s t u : State} (h : KeepsTrips s t) (k : KeepsTrips t u) : KeepsTrips s u := by
  obtain ⟨log, table⟩ := h
  obtain ⟨log', table'⟩ := k
  exact ⟨fun hs => log' (log hs), fun hs => table' (table hs)⟩

theorem LeavesTrips.keeps {s t : State} (h : LeavesTrips s t) : KeepsTrips s t := by
  obtain ⟨log, bursts, hold, idle⟩ := h
  refine ⟨fun hs => ?_, fun hs => ?_⟩
  · unfold LogInv
    rw [log]
    exact hs
  · obtain ⟨fits, agrees, closed⟩ := (burstInv_iff s).1 hs
    refine (burstInv_iff t).2 ?_
    rw [bursts, hold]
    exact ⟨fits, agrees, fun w => closed (idle w)⟩

theorem keepsTrips_of_touches {bs : List Block} {s t : State} (h : Touches bs s t) (log : .log ∉ bs := by decide)
    (bursts : .bursts ∉ bs := by decide) (shift : .shift ∉ bs := by decide) (supply : .supply ∉ bs := by decide) :
    KeepsTrips s t := (leavesTrips_of_touches h log bursts shift supply).keeps

/-- An operation of the other blocks, made after a part that keeps the log and the table. -/
theorem keepsTrips_after {bs : List Block} {s t u : State} (k : Touches bs t u) (h : KeepsTrips s t)
    (log : .log ∉ bs := by decide) (bursts : .bursts ∉ bs := by decide) (shift : .shift ∉ bs := by decide)
    (supply : .supply ∉ bs := by decide) : KeepsTrips s u := h.trans (keepsTrips_of_touches k log bursts shift supply)

/-- What leaves the log is safe when it keeps the table. -/
theorem keepsTrips_of_table {bs : List Block} {s t : State} (h : Touches bs s t) (table : BurstInv s → BurstInv t)
    (log : .log ∉ bs := by decide) : KeepsTrips s t := by
  have same : t.log = s.log := h.same .log log
  refine ⟨fun hs => ?_, table⟩
  unfold LogInv
  rw [same]
  exact hs

/-- What touches the Burst Table alone, beside blocks that BurstInv does not read, keeps it when the table stays in step with a
reference that no step sets. -/
theorem burstInv_of_table {bs : List Block} {s t : State} (h : Touches bs s t) (inv : BurstInv s) (fits : TableFits t.bursts)
    (count : t.bursts.holdCount = s.bursts.holdCount)
    (ref : s.bursts.openRef = none → t.bursts.openRef = none) (shift : .shift ∉ bs := by decide)
    (supply : .supply ∉ bs := by decide) : BurstInv t := by
  have shifts : t.shift = s.shift := h.same .shift shift
  obtain ⟨_, agrees, closed⟩ := (burstInv_iff s).1 inv
  refine (burstInv_iff t).2 ⟨fits, ?_, fun w => ref (closed ?_)⟩
  · rw [shifts, count, agrees]
  · rwa [working_congr (h.same .supply supply)] at w

/-! ### An entry made (R84, R85) -/

/-- A record after the removal of a TRIP_ASSERT of a number (R85). -/
def BurstRecord.flagged (number : BitVec 16) (r : BurstRecord) : BurstRecord :=
  if r.number = number ∧ r.ack = none then { r with lostEntries := true } else r

theorem flagged_number (number : BitVec 16) (r : BurstRecord) : (BurstRecord.flagged number r).number = r.number := by
  unfold BurstRecord.flagged
  split <;> rfl

theorem flagged_state (number : BitVec 16) (r : BurstRecord) : (BurstRecord.flagged number r).state = r.state := by
  unfold BurstRecord.flagged
  split <;> rfl

theorem flagged_holds (number : BitVec 16) (r : BurstRecord) : (BurstRecord.flagged number r).holds = r.holds := by
  unfold BurstRecord.flagged
  split <;> rfl

theorem flagLost_fits (e : LogEntry) {s : State} (fits : TableFits s.bursts) : TableFits (flagLost e s).bursts := by
  unfold flagLost
  split
  next number _ _ =>
    obtain ⟨_, _, _, _, count⟩ := id fits
    exact tableFits_map (f := BurstRecord.flagged number) fits rfl (flagged_number number)
      (fun r _ => by rw [flagged_state]) rfl (count.trans (countP_map_holds fun r _ => flagged_holds number r).symm)
  next => exact fits

theorem removeOldest_tableFits {s : State} (fits : TableFits s.bursts) : TableFits (removeOldest s).bursts := by
  by_cases room : s.log.ring.length < Config.ringSize
  · rw [removeOldest_of_room room]
    exact fits
  · have size : Config.ringSize = 1024 := rfl
    obtain ⟨old, rest, ring⟩ := List.exists_cons_of_length_pos (l := s.log.ring) (by omega)
    rw [removeOldest_flags ring room]
    exact flagLost_fits old fits

theorem removeOldest_burstInv {s : State} (inv : BurstInv s) : BurstInv (removeOldest s) := by
  have table := removeOldest_bursts s
  refine burstInv_of_table (removeOldest_touches s) inv (removeOldest_tableFits (tableFits_of_inv inv)) ?_ fun closed => ?_
  · rw [table]
  · rw [table]
    exact closed

theorem makeEntry_keeps (b : EntryBody) (x : FullStamp) (s : State) : KeepsTrips s (makeEntry b x s) :=
  ⟨makeEntry_logInv b x, removeOldest_burstInv⟩

/-! ### An assert made (R92 to R94) -/

/-- Whatever becomes of an assert, the table that it leaves is in step. -/
theorem takeAssert_table {s : State} (inv : BurstInv s) (a : Assert) :
    ∃ b bursts u n, (takeAssert a s).2 = takenState b bursts u n s ∧ TableFits b := by
  have fits := tableFits_of_inv inv
  by_cases live : ∃ r ∈ s.bursts.records, r.state ≠ .closed
  · obtain ⟨r, held, live⟩ := live
    exact ⟨_, _, _, _, congrArg Prod.snd (takeAssert_joins inv a held live),
      tableFits_put (new := joinedRecord r a s) fits held rfl Iff.rfl rfl rfl
        (joinedTable_holdCount inv held rfl joinedRecord_holds)⟩
  · have closed : ∀ r ∈ s.bursts.records, r.state = .closed := by simpa using live
    obtain ⟨few, distinct, _⟩ := id fits
    cases place : makePlace s.bursts.records with
    | some kept =>
      obtain ⟨room, whole, without⟩ := makePlace_some few closed place
      have sub : kept.Sublist s.bursts.records := by
        by_cases room : s.bursts.records.length < 32
        · rw [whole room]
        · obtain ⟨before, r, after, split, _, _, rest⟩ := without room
          rw [rest, split]
          exact (List.Sublist.refl before).append (List.sublist_cons_self r after)
      obtain ⟨fresh, _⟩ := freeNumber_free room s.bursts.nextNumber
      exact ⟨_, _, _, _, congrArg Prod.snd (takeAssert_opens inv a closed place),
        tableFits_open room (distinct.sublist (sub.map _)) (fun x held => closed x (sub.subset held)) fresh
          (by simp [openedRecord]) rfl rfl (openedTable_holdCount inv (makePlace_countP few closed place))⟩
    | none =>
      obtain ⟨full, _⟩ := makePlace_none closed place
      obtain ⟨init, r, split⟩ := newest_of_full full
      have last : s.bursts.records.getLast? = some r := by rw [split, List.getLast?_concat]
      have held := List.mem_of_getLast? last
      exact ⟨_, _, _, _, congrArg Prod.snd (takeAssert_overflows inv a closed place last),
        tableFits_put (new := overflowRecord r a s) fits held rfl Iff.rfl rfl rfl
          (joinedTable_holdCount inv held rfl overflowRecord_holds)⟩

theorem takeAssert_burstInv {s : State} (works : working s = true) (inv : BurstInv s) (a : Assert) :
    BurstInv (takeAssert a s).2 := by
  obtain ⟨b, bursts, u, n, taken, fits⟩ := takeAssert_table inv a
  have blocks := takeAssert_touches a s
  have hold : (takenState b bursts u n s).shift.holdCount = b.holdCount := by
    rw [takenState, handFault_eq]
    rfl
  refine (burstInv_iff _).2 ⟨?_, ?_, fun idle => ?_⟩
  · rw [taken, takenState_bursts]
    exact fits
  · rw [taken, takenState_bursts, hold]
  · rw [working_congr (blocks.same .supply), works] at idle
    cases idle

theorem makeAssert_keeps (i : Fin 16) (x : FullStamp) (resumed : Bool) {s : State} (works : working s = true) :
    KeepsTrips s (makeAssert i x resumed s) := by
  refine ⟨makeAssert_logInv i x resumed, fun inv => ?_⟩
  have removed : working (removeOldest s) = true := (working_congr ((removeOldest_touches s).same .supply)).trans works
  have taken := takeAssert_burstInv removed (removeOldest_burstInv inv) (assertOf i x s)
  rw [makeAssert_eq]
  exact taken

/-! ### Windows and gaps (R96, R97, R110) -/

theorem closeRecord_fits {s : State} {r : BurstRecord} (fits : TableFits s.bursts) (held : r ∈ s.bursts.records)
    (live : r.state ≠ .closed) : TableFits (closeRecord r s).bursts := tableFits_close fits held live

theorem closeRecord_keeps {s : State} {r : BurstRecord} (held : r ∈ s.bursts.records) (live : r.state ≠ .closed) :
    KeepsTrips s (closeRecord r s) :=
  keepsTrips_of_table (closeRecord_touches r s) fun inv =>
    burstInv_of_table (closeRecord_touches r s) inv (closeRecord_fits (tableFits_of_inv inv) held live) rfl fun _ => rfl

theorem judgeGap_keeps (s : State) : KeepsTrips s (judgeGap s) := by
  refine keepsTrips_of_table (judgeGap_touches s) fun inv => ?_
  unfold judgeGap
  split
  · exact inv
  next r found =>
    obtain ⟨held, live⟩ := (openRecord_eq_some (tableFits_of_inv inv) r).1 found
    split
    · exact (closeRecord_keeps held live).2 inv
    · exact inv

/-- FORMING or OPEN, a record is as open in the table that takes it. -/
theorem openedWindow_fits {s : State} {r : BurstRecord} (fits : TableFits s.bursts) (held : r ∈ s.bursts.records)
    (live : r.state ≠ .closed) : TableFits (s.bursts.put { r with state := .opened }) := by
  have holds := countP_put_same (new := { r with state := .opened }) fits held rfl rfl
  obtain ⟨_, _, _, _, count⟩ := id fits
  exact tableFits_put (new := { r with state := .opened }) fits held rfl (by simp [live]) rfl rfl (count.trans holds.symm)

/-- The state that the end of the first-out window leaves before the gap is judged (R96). -/
def windowClosed (r : BurstRecord) (s : State) : State :=
  postBurst .burst { r with state := .opened } { s with bursts := s.bursts.put { r with state := .opened } }

theorem windowClosed_touches (r : BurstRecord) (s : State) : Touches [.bursts, .notices] s (windowClosed r s) :=
  (postBurst_touches _ _ _).after .write

theorem windowClosed_bursts (r : BurstRecord) (s : State) :
    (windowClosed r s).bursts = s.bursts.put { r with state := .opened } := (postBurst_touches _ _ _).same .bursts

theorem windowClosed_keeps {s : State} {r : BurstRecord} (held : r ∈ s.bursts.records) (live : r.state ≠ .closed) :
    KeepsTrips s (windowClosed r s) := by
  refine keepsTrips_of_table (windowClosed_touches r s) fun inv => ?_
  have fits := openedWindow_fits (tableFits_of_inv inv) held live
  rw [← windowClosed_bursts r s] at fits
  refine burstInv_of_table (windowClosed_touches r s) inv fits ?_ fun closed => ?_
  · rw [windowClosed_bursts]
    rfl
  · rw [windowClosed_bursts]
    exact closed

/-- The window ends when it is due, and the gap closes the record at once when it has run (R96, R97). -/
theorem closeWindow_eq {s : State} {r : BurstRecord} (found : openRecord s = some r) :
    closeWindow s =
      if windowCloseDue s = false then s
      else if gapReached s r then closeRecord { r with state := .opened } (windowClosed r s)
      else windowClosed r s := by
  unfold closeWindow
  rw [found]
  rfl

theorem closeWindow_keeps (s : State) : KeepsTrips s (closeWindow s) := by
  refine keepsTrips_of_table (closeWindow_touches s) fun inv => ?_
  cases found : openRecord s with
  | none =>
    unfold closeWindow
    rw [found]
    exact inv
  | some r =>
    obtain ⟨held, live⟩ := (openRecord_eq_some (tableFits_of_inv inv) r).1 found
    have windowed := windowClosed_keeps held live
    have closed : KeepsTrips (windowClosed r s) (closeRecord { r with state := .opened } (windowClosed r s)) :=
      closeRecord_keeps (by rw [windowClosed_bursts]; exact mem_put held rfl) (by simp)
    rw [closeWindow_eq found]
    split
    · exact inv
    · split
      · exact (windowed.trans closed).2 inv
      · exact windowed.2 inv

end Sys2Proof.Machine.TripLaws
end

section
/-! PROOF. SET BURST GAP, the first-out window and the gap (O44). -/

namespace Sys2Proof.Machine.TripLaws

open LineLaws InputLaws

set_option Elab.async false

/-! ### The gap (R97) -/

/-- An OPEN record whose gap has run (R97). -/
def GapRun (s : State) (r : BurstRecord) : Prop :=
  r.state = .opened ∧ s.settings.inputs.burstGap * 10000 ≤ since s r.lastJoin

theorem gapDue_iff {s : State} {r : BurstRecord} (works : working s = true) (found : openRecord s = some r) :
    gapDue s = true ↔ GapRun s r := by
  have milli : Config.milli = 10000 := rfl
  simp [gapDue, found, works, gapReached, milli, GapRun]

theorem judgeGap_of_run {s : State} {r : BurstRecord} (works : working s = true) (fits : TableFits s.bursts)
    (held : r ∈ s.bursts.records) (run : GapRun s r) : judgeGap s = closeRecord r s := by
  have live : r.state ≠ .closed := by simp [run.1]
  have found := (openRecord_eq_some fits r).2 ⟨held, live⟩
  simp only [judgeGap, found, (gapDue_iff works found).2 run, if_true]

theorem judgeGap_of_rest {s : State} (works : working s = true) (fits : TableFits s.bursts)
    (rest : ∀ r ∈ s.bursts.records, ¬ GapRun s r) : judgeGap s = s := by
  unfold judgeGap
  split
  · rfl
  next r found =>
    obtain ⟨held, _⟩ := (openRecord_eq_some fits r).1 found
    exact if_neg fun due => rest r held ((gapDue_iff works found).1 due)

/-- Of the records only the one OPEN can have run, so that its closing is the closing of all that have. -/
theorem closeRecord_records {s : State} {r : BurstRecord} (fits : TableFits s.bursts) (held : r ∈ s.bursts.records)
    {run : BurstRecord → Prop} [DecidablePred run] (opened : ∀ x, run x → x.state = .opened) (ran : run r) :
    (closeRecord r s).bursts.records = s.bursts.records.map fun x => if run x then { x with state := .closed } else x := by
  refine List.map_congr_left fun x heldToo => ?_
  by_cases same : x = r
  · rw [same, if_pos rfl, if_pos ran]
  · have other : ¬ run x := fun ranToo => same (by
      have one := (openRecord_eq_some fits x).2 ⟨heldToo, by simp [opened x ranToo]⟩
      have two := (openRecord_eq_some fits r).2 ⟨held, by simp [opened r ran]⟩
      exact Option.some.inj (one.symm.trans two))
    rw [if_neg fun number => same (unique_of_number fits heldToo held number), if_neg other]

theorem judgeGap_endTransaction (p : Port) (s : State) :
    judgeGap (endTransaction p s) = endTransaction p (judgeGap s) := by
  have found : openRecord (endTransaction p s) = openRecord s := rfl
  have due : gapDue (endTransaction p s) = gapDue s := rfl
  unfold judgeGap
  rw [found, due]
  split
  · rfl
  · split <;> rfl

/-- `s` with the gap Tg (R108). -/
def withGap (tg : Nat) (s : State) : State :=
  { s with settings := { s.settings with inputs := { s.settings.inputs with burstGap := tg } } }

theorem exec_setBurstGap {p : Port} {args : List Byte} {s : State} (ready : Ready p s) (length : args.length = 2) :
    exec (.setBurstGap p args) s = .next (ofGroup p .inputs (rangeStatus 20 5000 (argNumber args 0 2)) s
      (judgeGap (withGap (min 5000 (max 20 (argNumber args 0 2))) s))) := by
  have ports : (judgeGap (withGap (min 5000 (max 20 (argNumber args 0 2))) s)).ports = s.ports :=
    (judgeGap_touches _).same .ports
  refine congrArg Host.Outcome.next (carryOut_ofGroup (inner := fun u => {
      state := judgeGap (withGap (clampNat 20 5000 (argNumber args 0 2)) u)
      status := clampedStatus (outside 20 5000 (argNumber args 0 2)) })
    ready (by omega) (by simp [fits, length]) rfl ?_ (by rw [ports]))
  rw [← judgeGap_endTransaction, clampedStatus_outside]
  rfl

/-! ### The first-out window (R96) -/

theorem put_put (b : BurstTable) {x y : BurstRecord} (number : y.number = x.number) : (b.put x).put y = b.put y := by
  simp only [BurstTable.put, List.map_map]
  congr 1
  refine List.map_congr_left fun r _ => ?_
  by_cases same : r.number = x.number <;> simp [same, number]

theorem windowClosed_eq (r : BurstRecord) (s : State) :
    windowClosed r s =
      { s with
        bursts := s.bursts.put { r with state := .opened }
        notices := (postWhere (fun q => r.actions.notifyAll
          || decide (r.units &&& (s.settings.notice.get q).interest ≠ 0)) .burst s).notices } := by
  have posted : (windowClosed r s).notices = (postWhere (fun q => r.actions.notifyAll
      || decide (r.units &&& (s.settings.notice.get q).interest ≠ 0)) .burst s).notices :=
    postWhere_notices_congr rfl rfl rfl
  exact (postBurst_eq _ _ _).trans (congrArg (fun n => ({ s with
    bursts := s.bursts.put { r with state := .opened }, notices := n } : State)) posted)

/-- Settles O44: the gap by whether the OPEN record's has run, the window by what it leaves. -/
theorem burstWindowsAndGapsEnd : Obligations.BurstWindowsAndGapsEnd := by
  unfold Obligations.BurstWindowsAndGapsEnd
  refine ⟨?_, ?_, fun r s works inv held opened => ?_⟩
  · intro p args s ready length inv tg closes
    obtain ⟨_, _, works⟩ := id ready
    have fits : TableFits (withGap tg s).bursts := tableFits_of_inv inv
    refine ⟨_, exec_setBurstGap ready length, ?_⟩
    by_cases run : ∃ r ∈ s.bursts.records, closes r
    · obtain ⟨r, held, ran⟩ := run
      rw [judgeGap_of_run (s := withGap tg s) works fits held ran]
      exact ⟨rfl, fun _ _ _ => rfl, fun none => absurd ran (none r held),
        closeRecord_records fits held (run := closes) (fun x ran => ran.1) ran⟩
    · have rest : ∀ r ∈ s.bursts.records, ¬ closes r := fun r held ran => run ⟨r, held, ran⟩
      rw [judgeGap_of_rest (s := withGap tg s) works fits rest]
      refine ⟨rfl, fun r held ran => absurd ran (rest r held), fun _ => rfl, ?_⟩
      exact ((List.map_congr_left fun r held => if_neg (rest r held)).trans (List.map_id _)).symm
  · intro r s works inv held forming elapsed gone
    have fits := tableFits_of_inv inv
    have live : r.state ≠ .closed := by simp [forming]
    have found := (openRecord_eq_some fits r).2 ⟨held, live⟩
    have window : Config.firstOutWindow = 300000 := rfl
    have due : windowCloseDue s = true := by simp [windowCloseDue, found, works, forming, window, elapsed]
    have ref : s.bursts.openRef = some r.number := by
      obtain ⟨_, _, referred, _⟩ := fits
      exact referred r held live
    refine ⟨closeWindow s, rfl, ?_⟩
    rw [closeWindow_eq found, if_neg (by rw [due]; decide)]
    by_cases run : s.settings.inputs.burstGap * 10000 ≤ since s r.lastJoin
    · have table := put_put s.bursts (x := { r with state := .opened }) (y := { r with state := .closed }) rfl
      rw [if_pos (show gapReached s r = true from decide_eq_true run), closeRecord, windowClosed_eq, table]
      rw [if_pos run]
      exact ⟨rfl, fun _ => rfl, fun no => absurd run no, rfl, rfl⟩
    · rw [if_neg (show ¬ gapReached s r = true from fun reached => run (of_decide_eq_true reached)), windowClosed_eq]
      rw [if_neg run]
      exact ⟨rfl, fun ran => absurd ran run, fun _ => ref, rfl, rfl⟩
  · have fits := tableFits_of_inv inv
    refine ⟨fun elapsed => congrArg Host.Outcome.next ?_, fun within => congrArg Host.Outcome.next ?_⟩
    · exact judgeGap_of_run works fits held ⟨opened, elapsed⟩
    · refine judgeGap_of_rest works fits fun x heldToo ran => ?_
      have one := (openRecord_eq_some fits x).2 ⟨heldToo, by simp [ran.1]⟩
      have two := (openRecord_eq_some fits r).2 ⟨held, by simp [opened]⟩
      rw [Option.some.inj (one.symm.trans two)] at ran
      exact absurd ran.2 (by omega)

end Sys2Proof.Machine.TripLaws
end

section
/-! SUPPORT. A completion, a boundary and the window leave the log and the Burst Table; a completion reads no transaction, and binds
ports at most (R168, R173, R195). -/

namespace Sys2Proof.Machine.TripLaws

open LineLaws InputLaws

set_option Elab.async false

/-! ### The Shift Controller leaves the log and the table -/

theorem ringBell_leavesTrips (s : State) : LeavesTrips s (ringBell s) := ⟨rfl, rfl, rfl, id⟩

theorem openHandoverBy_leavesTrips (o : OpenedBy) (e : Option (BitVec 4)) (x : FullStamp) (s : State) :
    LeavesTrips s (openHandoverBy o e x s) := by
  refine LeavesTrips.trans (leavesTrips_after (post_touches _ _) ?_) (ringBell_leavesTrips _)
  exact ⟨rfl, rfl, rfl, id⟩

theorem fireBoundary_leavesTrips (k : Nat) (b : Boundary) (d : BitVec 16) (x : FullStamp) (s : State) :
    LeavesTrips s (fireBoundary k b d x s) := by
  unfold fireBoundary
  dsimp only
  split
  · refine LeavesTrips.trans ?_ (openHandoverBy_leavesTrips _ _ _ _)
    exact ⟨rfl, rfl, rfl, id⟩
  · exact ⟨rfl, rfl, rfl, id⟩
  · exact ⟨rfl, rfl, rfl, id⟩

theorem checkBoundary_leavesTrips (s : State) : LeavesTrips s (checkBoundary s) := by
  unfold checkBoundary
  split
  · exact .refl s
  · split
    · exact .refl s
    · split
      · exact fireBoundary_leavesTrips _ _ _ _ s
      · exact .refl s

theorem LeavesTrips.foldl {α : Type} {f : State → α → State} (h : ∀ t x, LeavesTrips t (f t x)) (l : List α) (s : State) :
    LeavesTrips s (l.foldl f s) := by
  induction l generalizing s with
  | nil => exact .refl s
  | cons x l ih => exact (h s x).trans (ih (f s x))

theorem firePassed_leavesTrips (xs : List Passed) (s : State) : LeavesTrips s (firePassed xs s) := by
  refine LeavesTrips.foldl (fun t x => ?_) xs s
  split
  · exact fireBoundary_leavesTrips _ _ _ _ t
  · exact .refl t

theorem reportStep_leavesTrips (x y : StationTime) (s : State) : LeavesTrips s (reportStep x y s) := by
  unfold reportStep
  split
  · exact .refl s
  · split
    · exact .refl s
    · exact firePassed_leavesTrips _ s

theorem judgeWindow_leavesTrips (s : State) : LeavesTrips s (judgeWindow s) := by
  unfold judgeWindow
  split
  · exact .refl s
  · refine LeavesTrips.trans (leavesTrips_after (post_touches _ _) ?_) (ringBell_leavesTrips _)
    exact ⟨rfl, rfl, rfl, id⟩

theorem judgeWorst_leavesTrips (s : State) : LeavesTrips s (judgeWorst s) := ⟨rfl, rfl, rfl, id⟩

theorem warmShift_leavesTrips (s : State) : LeavesTrips s (warmShift s) := by
  have reported : LeavesTrips s (match s.supply.gapStart with
      | none => s
      | some g => reportStep g.time s.clk.time s) := by
    split
    · exact .refl s
    · exact reportStep_leavesTrips _ _ s
  exact reported.trans ((judgeWindow_leavesTrips _).trans (judgeWorst_leavesTrips _))

/-! ### Completion (R168, R173) -/

/-- The shift once handover `h` accepted as `a` is complete, before what it asks of the other blocks (R171, R173). -/
def changedShift (h : Handover) (a : Acceptance) (forced : Bool) (s : State) : State :=
  { s with
    shift := { s.shift with
      records := (buildRecord h a forced s :: s.shift.records).take 16, current := newShift a s, handover := none,
      state := .onShift }
    units := .ofFn fun u => { s.units.get u with deltas := .zero } }

theorem complete_eq (h : Handover) (a : Acceptance) (forced : Bool) (s : State) :
    complete h a forced s =
      ringBell (post .handoverDone (request .currentShift (request .shiftRecord (changedShift h a forced s)))) := rfl

theorem complete_leavesTrips (h : Handover) (a : Acceptance) (forced : Bool) (s : State) :
    LeavesTrips s (complete h a forced s) := by
  have changed : LeavesTrips s (changedShift h a forced s) := ⟨rfl, rfl, rfl, id⟩
  rw [complete_eq]
  exact (leavesTrips_after (post_touches _ _) (leavesTrips_after (request_touches _ _)
    (leavesTrips_after (request_touches _ _) changed))).trans (ringBell_leavesTrips _)

/-- A handover that is not released and accepted is not completed (R168). -/
theorem checkCompletion_of_open {s : State}
    (open_ : ∀ h, s.shift.handover = some h → h.released = none ∨ h.accepted = none) : checkCompletion s = s := by
  unfold checkCompletion
  split
  · rfl
  next h handover =>
    split
    next released accepted =>
      rcases open_ h handover with absent | absent
      · rw [absent] at released
        cases released
      · rw [absent] at accepted
        cases accepted
    next => rfl

theorem checkCompletion_of_held {s : State} (held : s.shift.holdCount ≠ 0) : checkCompletion s = s := by
  unfold checkCompletion
  split
  · rfl
  · split
    · exact if_neg held
    · rfl

/-- An open handover waits for its release, its acceptance and its holds (R168). -/
theorem checkCompletion_waits {s : State} {h : Handover} (handover : s.shift.handover = some h)
    (waits : h.released = none ∨ h.accepted = none ∨ s.shift.holdCount ≠ 0) : checkCompletion s = s := by
  rcases or_assoc.2 waits with open_ | held
  · refine checkCompletion_of_open fun x is => ?_
    rw [handover] at is
    cases is
    exact open_
  · exact checkCompletion_of_held held

/-- A handover released and accepted completes with a hold count of 0 (R168). -/
theorem checkCompletion_completes {s : State} {h : Handover} {a : Acceptance} (handover : s.shift.handover = some h)
    (released : h.released ≠ none) (accepted : h.accepted = some a) (free : s.shift.holdCount = 0) :
    checkCompletion s = complete h a false s := by
  obtain ⟨q, by_⟩ := Option.ne_none_iff_exists'.1 released
  simp only [checkCompletion, handover, by_, accepted, if_pos free]

/-- The completion check completes a handover or leaves everything (R168). -/
theorem checkCompletion_cases (s : State) :
    checkCompletion s = s ∨ ∃ h a, checkCompletion s = complete h a false s := by
  unfold checkCompletion
  split
  · exact .inl rfl
  · split
    · split
      · exact .inr ⟨_, _, rfl⟩
      · exact .inl rfl
    · exact .inl rfl

theorem checkCompletion_leavesTrips (s : State) : LeavesTrips s (checkCompletion s) := by
  rcases checkCompletion_cases s with same | ⟨h, a, completed⟩
  · rw [same]
    exact .refl s
  · rw [completed]
    exact complete_leavesTrips _ _ _ s

/-! ### A completion binds ports at most (R195) -/

theorem ports_rebound_trans {c d e : PortCtl} (h : ∃ b, d = { c with binding := b }) (k : ∃ b, e = { d with binding := b }) :
    ∃ b, e = { c with binding := b } := by
  obtain ⟨b, rfl⟩ := h
  obtain ⟨b', rfl⟩ := k
  exact ⟨b', rfl⟩

theorem complete_ports (h : Handover) (a : Acceptance) (forced : Bool) (s : State) (q : Port) :
    ∃ b, (complete h a forced s).ports.get q = { s.ports.get q with binding := b } := by
  have posted : (complete h a forced s).ports
      = (request .currentShift (request .shiftRecord (changedShift h a forced s))).ports := (post_touches _ _).same .ports
  rw [posted]
  exact ports_rebound_trans (request_ports .shiftRecord (changedShift h a forced s) q) (request_ports _ _ q)

theorem checkCompletion_ports (s : State) (q : Port) :
    ∃ b, (checkCompletion s).ports.get q = { s.ports.get q with binding := b } := by
  rcases checkCompletion_cases s with same | ⟨h, a, completed⟩
  · rw [same]
    exact ⟨_, rfl⟩
  · rw [completed]
    exact complete_ports _ _ _ s q

/-! ### A completion reads no transaction (R182) -/

section
variable (p : Port) (s : State)

theorem postTo_endTransaction (k : NoticeKind) (q : Port) :
    postTo k q (endTransaction p s) = endTransaction p (postTo k q s) := by
  have works : working (endTransaction p s) = working s := rfl
  have enabled : (endTransaction p s).settings = s.settings := rfl
  unfold postTo
  rw [works, enabled]
  split
  · rfl
  · split <;> rfl

theorem post_endTransaction (k : NoticeKind) : post k (endTransaction p s) = endTransaction p (post k s) := by
  show postTo k .c (postTo k .b (postTo k .a (endTransaction p s))) = _
  rw [postTo_endTransaction, postTo_endTransaction, postTo_endTransaction]
  rfl

/-- The binding that a program's start moves is no part of the transaction (R195). -/
theorem rebind_endTransaction (x y : SaveBinding) : rebind x y (endTransaction p s) = endTransaction p (rebind x y s) := by
  have moved : ∀ c : PortCtl,
      (if ({ c with transaction := none } : PortCtl).binding = some x then
          { ({ c with transaction := none } : PortCtl) with binding := some y } else { c with transaction := none })
        = { (if c.binding = some x then { c with binding := some y } else c) with transaction := none } := by
    intro c
    dsimp only
    split <;> rfl
  cases p with
  | a => exact congrArg (fun c => ({ rebind x y s with ports := { (rebind x y s).ports with a := c } } : State)) (moved s.ports.a)
  | b => exact congrArg (fun c => ({ rebind x y s with ports := { (rebind x y s).ports with b := c } } : State)) (moved s.ports.b)
  | c => exact congrArg (fun c => ({ rebind x y s with ports := { (rebind x y s).ports with c := c } } : State)) (moved s.ports.c)

theorem startProgram_endTransaction : startProgram (endTransaction p s) = endTransaction p (startProgram s) := by
  have works : working (endTransaction p s) = working s := rfl
  have store : (endTransaction p s).store = s.store := rfl
  unfold startProgram
  rw [works, store]
  split
  next r rest _ _ _ =>
    dsimp only
    split
    · exact rebind_endTransaction p
        { s with store := { s.store with queue := rest, program := some (programFor s r) } } .queued .program
    · rfl
  next => rfl

theorem request_endTransaction (r : RecordId) : request r (endTransaction p s) = endTransaction p (request r s) := by
  have works : working (endTransaction p s) = working s := rfl
  have store : (endTransaction p s).store = s.store := rfl
  unfold request
  rw [works, store]
  split
  · rfl
  · split
    · rfl
    · exact startProgram_endTransaction p { s with store := { s.store with
        queue := s.store.queue ++ [{ record := r, emergency := false, retry := false }] } }

theorem complete_endTransaction (h : Handover) (a : Acceptance) (forced : Bool) :
    complete h a forced (endTransaction p s) = endTransaction p (complete h a forced s) := by
  have changed : changedShift h a forced (endTransaction p s) = endTransaction p (changedShift h a forced s) := rfl
  rw [complete_eq, complete_eq, changed, request_endTransaction, request_endTransaction, post_endTransaction]
  rfl

theorem checkCompletion_endTransaction :
    checkCompletion (endTransaction p s) = endTransaction p (checkCompletion s) := by
  have shift : (endTransaction p s).shift = s.shift := rfl
  unfold checkCompletion
  rw [shift]
  split
  · rfl
  · split
    · split
      · exact complete_endTransaction p s _ _ _
      · rfl
    · rfl

end

/-- A frame carried out whose block may bind its port anew, which the answer ends (R184, R195). -/
theorem carryOut_bound {p : Port} {args : List Byte} {good : Bool} {body : State → Reply} {s t : State} {x : Status}
    {r : Result} (ready : Ready p s) (short : args.length ≤ 60) (fit : good = true)
    (takes : body (endTransaction p s) = { state := endTransaction p t, status := x, result := r })
    (ports : ∃ b, t.ports.get p = { s.ports.get p with binding := b }) :
    carryOut p args good body s = answered p x r s t := by
  have within : ¬ longestFrame < args.length := by
    unfold longestFrame
    omega
  have bound : ∃ b, (endTransaction p t).ports.get p = { (endTransaction p s).ports.get p with binding := b } := by
    obtain ⟨b, moved⟩ := ports
    exact ⟨b, by rw [endTransaction_port, endTransaction_port, moved]⟩
  rw [carryOut, atRise_ready ready]
  simp only [within, fit, if_false, takes, Bool.true_eq_false]
  rw [answerPort_rebound bound]
  simp only [answered, endTransaction, State.withPort, PerPort.set_set]

end Sys2Proof.Machine.TripLaws
end

section
/-! PROOF. ACK BURST (O45), and the commands of a handover with the completion they and the last acknowledgement bring (O57). -/

namespace Sys2Proof.Machine.TripLaws

open LineLaws InputLaws

set_option Elab.async false

/-! ### The acknowledgement (R101, R102) -/

/-- The hold count after the acknowledgement of an UNACKNOWLEDGED record (R101). -/
def holdAfter (r : BurstRecord) (s : State) : Nat := s.bursts.holdCount - if r.actions.holdHandover then 1 else 0

/-- `s` with record `r` acknowledged by port `p`, and the hold count of both blocks as it then stands. -/
def acknowledged (r : BurstRecord) (p : Port) (s : State) : State :=
  { s with
    bursts := { s.bursts.put { r with ack := some p } with holdCount := holdAfter r s }
    shift := { s.shift with holdCount := holdAfter r s } }

/-- A record that holds is one of those counted (R101). -/
theorem holdCount_pos {s : State} {r : BurstRecord} (inv : BurstInv s) (held : r ∈ s.bursts.records) (fresh : r.ack = none)
    (holding : r.actions.holdHandover = true) : 0 < s.bursts.holdCount := by
  obtain ⟨_, _, _, _, count⟩ := tableFits_of_inv inv
  rw [count]
  exact List.countP_pos_iff.2 ⟨r, held, by simp [BurstRecord.holds, fresh, holding]⟩

/-- The record written back with its acknowledgement takes its hold off, and a fall to 0 is judged by the Shift Controller (R101,
R168). -/
theorem replaceRecord_acknowledges {s : State} {r : BurstRecord} (p : Port) (inv : BurstInv s) (held : r ∈ s.bursts.records)
    (fresh : r.ack = none) :
    replaceRecord r { r with ack := some p } s =
      if r.actions.holdHandover = true ∧ holdAfter r s = 0 then checkCompletion (acknowledged r p s)
      else acknowledged r p s := by
  obtain ⟨_, agrees, _⟩ := (burstInv_iff s).1 inv
  have positive := holdCount_pos inv held fresh
  cases holding : r.actions.holdHandover with
  | false =>
    have same : holdAfter r s = s.bursts.holdCount := by simp [holdAfter, holding]
    simp only [replaceRecord, BurstRecord.holds, fresh, holding, acknowledged, same, setHoldCount, Bool.and_false,
      Bool.false_eq_true, if_false, Nat.add_zero, Nat.sub_zero, false_and]
    have shift : ({ s.shift with holdCount := s.bursts.holdCount } : ShiftController) = s.shift := by rw [← agrees]
    rw [if_pos (by rfl), shift]
    rfl
  | true =>
    have positive := positive holding
    have falls : holdAfter r s = s.bursts.holdCount - 1 := by simp [holdAfter, holding]
    have other : s.bursts.holdCount - 1 ≠ s.bursts.holdCount := by omega
    have stood : s.shift.holdCount ≠ 0 := by omega
    simp only [replaceRecord, BurstRecord.holds, fresh, holding, acknowledged, falls, setHoldCount, handHoldCount,
      Option.isNone_some, Option.isNone_none, Bool.and_true, Bool.false_eq_true, if_false, if_true, Nat.add_zero, true_and]
    rw [if_neg (by exact other)]
    by_cases zero : s.bursts.holdCount - 1 = 0
    · rw [if_pos zero, if_pos (decide_eq_true ⟨zero, stood⟩)]
    · rw [if_neg zero, if_neg (by simp [zero])]

/-- The records that hold, when one that holds nothing afterwards is written back. -/
theorem countP_put_falls {b : BurstTable} {old new : BurstRecord} (held : old ∈ b.records)
    (distinct : (b.records.map fun x => x.number).Nodup) (number : new.number = old.number) (idle : new.holds = false) :
    (b.put new).records.countP BurstRecord.holds
      = b.records.countP BurstRecord.holds - if old.holds = true then 1 else 0 := by
  obtain ⟨before, after, split⟩ := List.append_of_mem held
  rw [put_records_split split distinct number, split, List.countP_append, List.countP_append, List.countP_cons,
    List.countP_cons, idle, if_neg Bool.false_ne_true]
  omega

theorem acknowledged_keeps {s : State} {r : BurstRecord} (p : Port) (held : r ∈ s.bursts.records) (fresh : r.ack = none) :
    KeepsTrips s (acknowledged r p s) := by
  refine ⟨id, fun inv => (burstInv_iff _).2 ?_⟩
  obtain ⟨fits, _, closed⟩ := (burstInv_iff s).1 inv
  obtain ⟨_, distinct, _, _, count⟩ := id fits
  have falls := countP_put_falls (new := { r with ack := some p }) held distinct rfl rfl
  have holds : r.holds = r.actions.holdHandover := by simp [BurstRecord.holds, fresh]
  refine ⟨tableFits_put (new := { r with ack := some p }) fits held rfl Iff.rfl rfl rfl ?_, rfl, closed⟩
  show holdAfter r s = (s.bursts.put { r with ack := some p }).records.countP BurstRecord.holds
  rw [falls, holdAfter, count, holds]

theorem replaceRecord_keeps {s : State} {r : BurstRecord} (p : Port) (held : r ∈ s.bursts.records) (fresh : r.ack = none) :
    KeepsTrips s (replaceRecord r { r with ack := some p } s) := by
  refine keepsTrips_of_table (replaceRecord_touches _ _ s) fun inv => ?_
  have kept := acknowledged_keeps p held fresh
  rw [replaceRecord_acknowledges p inv held fresh]
  split
  · exact (kept.trans (checkCompletion_leavesTrips _).keeps).2 inv
  · exact kept.2 inv

/-- The state that ACK BURST leaves when it takes a record (R101, R102). -/
def ackedState (r : BurstRecord) (p : Port) (s : State) : State :=
  if r.actions.holdHandover = true ∧ holdAfter r s = 0 then checkCompletion (acknowledged r p s) else acknowledged r p s

theorem ackedState_endTransaction (r : BurstRecord) (p : Port) (s : State) :
    ackedState r p (endTransaction p s) = endTransaction p (ackedState r p s) := by
  have hold : holdAfter r (endTransaction p s) = holdAfter r s := rfl
  unfold ackedState
  rw [hold]
  split
  · exact checkCompletion_endTransaction p (acknowledged r p s)
  · rfl

theorem ackedState_ports (r : BurstRecord) (p : Port) (s : State) :
    ∃ b, (ackedState r p s).ports.get p = { s.ports.get p with binding := b } := by
  unfold ackedState
  split
  · exact checkCompletion_ports (acknowledged r p s) p
  · exact ⟨_, rfl⟩

theorem ackedState_bursts (r : BurstRecord) (p : Port) (s : State) : (ackedState r p s).bursts = (acknowledged r p s).bursts := by
  unfold ackedState
  split
  · exact (checkCompletion_touches _).same .bursts
  · rfl

theorem ackedState_of_no_completion {r : BurstRecord} (p : Port) {s : State}
    (h : r.actions.holdHandover = false ∨ holdAfter r s ≠ 0
      ∨ ∀ h, s.shift.handover = some h → h.released = none ∨ h.accepted = none) :
    ackedState r p s = acknowledged r p s := by
  unfold ackedState
  split
  next falls =>
    rcases h with idle | stands | open_
    · exact absurd (falls.1.symm.trans idle) (by decide)
    · exact absurd falls.2 stands
    · exact checkCompletion_of_open open_
  next => rfl

section
variable {p : Port} {args : List Byte} {s : State}

/-- The number sought is that of a record held. -/
theorem find_ackNumber {r : BurstRecord} (length : args.length = 2) (fits : TableFits s.bursts) (held : r ∈ s.bursts.records)
    (number : r.number.toNat = argNumber args 0 2) : s.bursts.find (BitVec.ofNat 16 (argNumber args 0 2)) = some r := by
  obtain ⟨_, distinct, _⟩ := fits
  rw [← (eq_ofNat_iff (argNumber_two_lt length)).2 number]
  exact find_of_mem distinct held

theorem exec_ackBurst_takes {r : BurstRecord} (ready : Ready p s) (length : args.length = 2) (inv : BurstInv s)
    (held : r ∈ s.bursts.records) (number : r.number.toNat = argNumber args 0 2) (fixed : r.state ≠ .forming)
    (fresh : r.ack = none) : exec (.ackBurst p args) s = .next (answered p .done .empty s (ackedState r p s)) := by
  have found : (endTransaction p s).bursts.find (BitVec.ofNat 16 (argNumber args 0 2)) = some r :=
    find_ackNumber length (tableFits_of_inv inv) held number
  have takes := replaceRecord_acknowledges (s := endTransaction p s) p inv held fresh
  refine congrArg Host.Outcome.next (carryOut_bound ready (by omega) (by simp [fits, length]) ?_ (ackedState_ports r p s))
  simp only [ackBurst, found, if_neg fixed, fresh, Option.isSome_none, Bool.false_eq_true, if_false, takes]
  exact congrArg (fun t => ({ state := t, status := .done } : Reply)) (ackedState_endTransaction r p s)

end

/-- Settles O45, by the record that bears the number, its state, and whether it is acknowledged. -/
theorem ackBurstAcknowledges : Obligations.AckBurstAcknowledges := by
  unfold Obligations.AckBurstAcknowledges
  intro p args s ready length inv n
  have short : args.length ≤ 60 := by omega
  have fit : fits args 2 = true := by simp [fits, length]
  refine ⟨fun absent => ?_, fun r held number => ⟨fun forming => ?_, fun fixed taken => ?_, ?_⟩⟩
  · have none := (find_of_argNumber (s := endTransaction p s) length).trans
      (find_none (number := fun r : BurstRecord => r.number.toNat) absent)
    exact congrArg Host.Outcome.next (carryOut_refused ready short fit (by simp only [ackBurst, none]))
  · have found : (endTransaction p s).bursts.find (BitVec.ofNat 16 (argNumber args 0 2)) = some r :=
      find_ackNumber length (tableFits_of_inv inv) held number
    exact congrArg Host.Outcome.next (carryOut_refused ready short fit (by simp only [ackBurst, found, if_pos forming]))
  · have found : (endTransaction p s).bursts.find (BitVec.ofNat 16 (argNumber args 0 2)) = some r :=
      find_ackNumber length (tableFits_of_inv inv) held number
    exact congrArg Host.Outcome.next (carryOut_ready (t := s) ready short fit
      (by simp only [ackBurst, found, if_neg fixed, Option.isSome_iff_ne_none.2 taken, if_true]) rfl)
  · intro fixed fresh holds u
    exact ⟨_, exec_ackBurst_takes ready length inv held number fixed fresh, ackedState_bursts r p s,
      ackedState_of_no_completion p⟩

/-! ### The commands of a handover (R166 to R169) -/

/-- `s` with the handover `h` open. -/
def withHandover (h : Handover) (s : State) : State := { s with shift := { s.shift with handover := some h } }

theorem crewOf_of_lt {n : Nat} (h : n < 16) : crewOf n = some (BitVec.ofNat 4 n) := if_pos h

theorem crewOf_of_ge {n : Nat} (h : 16 ≤ n) : crewOf n = none := if_neg (by omega)

theorem crewFits_iff {s : State} {h : Handover} {c : BitVec 4} :
    crewFits s h c = true ↔ c ≠ s.shift.current.crew ∧ (h.expected = none ∨ h.expected = some c) := by
  unfold crewFits
  cases h.expected with
  | none => simp
  | some e =>
    simp only [Bool.and_eq_true, decide_eq_true_eq, Option.some.injEq, reduceCtorEq, false_or, eq_comm (a := e)]

section
variable {p : Port} {s : State}

theorem releaseShift_onShift (on : s.shift.state = .onShift) : releaseShift p s = refuse .notNow s := by
  simp only [releaseShift, on]

theorem releaseShift_open {h : Handover} (off : s.shift.state ≠ .onShift) (handover : s.shift.handover = some h) :
    releaseShift p s =
      { state := checkCompletion (withHandover { h with released := some (h.released.getD p) } s), status := .done } := by
  unfold releaseShift
  split
  next on => exact absurd on off
  next none _ =>
    rw [handover] at none
    cases none
  next is _ =>
    rw [handover] at is
    cases is
    rfl

variable {n : Nat}

theorem acceptShift_beyond (beyond : 16 ≤ n) : acceptShift p n s = refuse .badArgument s := by
  simp only [acceptShift, crewOf_of_ge beyond]

theorem forceHandover_beyond (beyond : 16 ≤ n) : forceHandover p n s = refuse .badArgument s := by
  simp only [forceHandover, crewOf_of_ge beyond]

theorem acceptShift_onShift (crew : n < 16) (on : s.shift.state = .onShift) : acceptShift p n s = refuse .notNow s := by
  simp only [acceptShift, crewOf_of_lt crew, on]

theorem forceHandover_onShift (crew : n < 16) (on : s.shift.state = .onShift) : forceHandover p n s = refuse .notNow s := by
  simp only [forceHandover, crewOf_of_lt crew, on]

/-- An open handover takes a crew that fits (R167). -/
theorem acceptShift_open {h : Handover} (crew : n < 16) (off : s.shift.state ≠ .onShift) (handover : s.shift.handover = some h) :
    acceptShift p n s =
      if crewFits s h (BitVec.ofNat 4 n) = false then refuse .wrongCrew s
      else
        { state := checkCompletion (withHandover { h with accepted := some { crew := BitVec.ofNat 4 n, port := p } } s)
          status := .done } := by
  simp only [acceptShift, crewOf_of_lt crew]
  split
  next on => exact absurd on off
  next none _ =>
    rw [handover] at none
    cases none
  next is _ =>
    rw [handover] at is
    cases is
    rfl

/-- An open handover is forced for a crew that fits (R169). -/
theorem forceHandover_open {h : Handover} (crew : n < 16) (off : s.shift.state ≠ .onShift)
    (handover : s.shift.handover = some h) :
    forceHandover p n s =
      if crewFits s h (BitVec.ofNat 4 n) = false then refuse .wrongCrew s
      else
        { state := complete { h with accepted := some { crew := BitVec.ofNat 4 n, port := p } }
            { crew := BitVec.ofNat 4 n, port := p } true s
          status := .done } := by
  simp only [forceHandover, crewOf_of_lt crew]
  split
  next on => exact absurd on off
  next none _ =>
    rw [handover] at none
    cases none
  next is _ =>
    rw [handover] at is
    cases is
    rfl

end

section
variable {p : Port} {s : State} {h : Handover}

theorem exec_releaseShift (ready : Ready p s) (off : s.shift.state ≠ .onShift) (handover : s.shift.handover = some h) :
    exec (.releaseShift p []) s = .next (answered p .done .empty s
      (checkCompletion (withHandover { h with released := some (h.released.getD p) } s))) := by
  refine congrArg Host.Outcome.next (carryOut_bound ready (by decide) rfl ?_ (checkCompletion_ports (withHandover _ s) p))
  rw [← checkCompletion_endTransaction]
  exact releaseShift_open (s := endTransaction p s) off handover

variable {args : List Byte}

theorem exec_acceptShift (ready : Ready p s) (length : args.length = 1) (crew : argNumber args 0 1 < 16)
    (off : s.shift.state ≠ .onShift) (handover : s.shift.handover = some h)
    (fit : crewFits s h (BitVec.ofNat 4 (argNumber args 0 1)) = true) :
    exec (.acceptShift p args) s = .next (answered p .done .empty s (checkCompletion
      (withHandover { h with accepted := some { crew := BitVec.ofNat 4 (argNumber args 0 1), port := p } } s))) := by
  refine congrArg Host.Outcome.next (carryOut_bound ready (by omega) (by simp [fits, length]) ?_
    (checkCompletion_ports (withHandover _ s) p))
  rw [← checkCompletion_endTransaction]
  have same : crewFits (endTransaction p s) h (BitVec.ofNat 4 (argNumber args 0 1)) = true := fit
  have takes := acceptShift_open (p := p) (s := endTransaction p s) crew off handover
  rw [same] at takes
  exact takes

theorem exec_forceHandover (ready : Ready p s) (length : args.length = 1) (crew : argNumber args 0 1 < 16)
    (off : s.shift.state ≠ .onShift) (handover : s.shift.handover = some h)
    (fit : crewFits s h (BitVec.ofNat 4 (argNumber args 0 1)) = true) :
    exec (.forceHandover p args) s = .next (answered p .done .empty s
      (complete { h with accepted := some { crew := BitVec.ofNat 4 (argNumber args 0 1), port := p } }
        { crew := BitVec.ofNat 4 (argNumber args 0 1), port := p } true s)) := by
  refine congrArg Host.Outcome.next (carryOut_bound ready (by omega) (by simp [fits, length]) ?_ (complete_ports _ _ _ s p))
  rw [← complete_endTransaction]
  have same : crewFits (endTransaction p s) h (BitVec.ofNat 4 (argNumber args 0 1)) = true := fit
  have takes := forceHandover_open (p := p) (s := endTransaction p s) crew off handover
  rw [same] at takes
  exact takes

end

/-- Settles O57: each command by its crew, the shift's state and what the handover holds; the last acknowledgement by its
completion. -/
theorem handoverCommandsAreJudged : Obligations.HandoverCommandsAreJudged := by
  unfold Obligations.HandoverCommandsAreJudged
  refine ⟨?_, ?_⟩
  · intro p args h s ready length n c opens fits released accepted
    have short : args.length ≤ 60 := by omega
    have fit : Machine.fits args 1 = true := by simp [Machine.fits, length]
    refine ⟨fun on => ⟨?_, fun crew => ⟨?_, ?_⟩⟩, fun beyond => ⟨?_, ?_⟩, fun off handover => ?_⟩
    · exact congrArg Host.Outcome.next (carryOut_refused ready (by decide) rfl (releaseShift_onShift on))
    · exact congrArg Host.Outcome.next (carryOut_refused ready short fit (acceptShift_onShift crew on))
    · exact congrArg Host.Outcome.next (carryOut_refused ready short fit (forceHandover_onShift crew on))
    · exact congrArg Host.Outcome.next (carryOut_refused ready short fit (acceptShift_beyond beyond))
    · exact congrArg Host.Outcome.next (carryOut_refused ready short fit (forceHandover_beyond beyond))
    · have releases := exec_releaseShift ready off handover
      refine ⟨fun a taken free => ?_, fun waits => ?_, fun crew unfit => ?_, fun crew fitting => ⟨?_, ?_, ?_⟩⟩
      · rw [releases, checkCompletion_completes (s := withHandover released s) rfl (Option.some_ne_none _) taken free]
        rfl
      · rw [releases, checkCompletion_waits (s := withHandover released s) rfl (.inr waits)]
        rfl
      · have wrong : crewFits (endTransaction p s) h c = false := Bool.eq_false_iff.2 fun good => unfit (crewFits_iff.1 good)
        have accepts := acceptShift_open (p := p) (s := endTransaction p s) crew off handover
        have forces := forceHandover_open (p := p) (s := endTransaction p s) crew off handover
        rw [if_pos wrong] at accepts forces
        exact ⟨congrArg Host.Outcome.next (carryOut_refused ready short fit accepts),
          congrArg Host.Outcome.next (carryOut_refused ready short fit forces)⟩
      · intro given free
        rw [exec_acceptShift ready length crew off handover (crewFits_iff.2 fitting),
          checkCompletion_completes (s := withHandover accepted s) rfl given rfl free]
        rfl
      · intro waits
        rw [exec_acceptShift ready length crew off handover (crewFits_iff.2 fitting),
          checkCompletion_waits (s := withHandover accepted s) rfl (waits.imp_right .inr)]
        rfl
      · exact exec_forceHandover ready length crew off handover (crewFits_iff.2 fitting)
  · intro p args h a r s ready length inv held number fixed fresh holding one handover released accepted
    have zero : holdAfter r s = 0 := by simp [holdAfter, holding, one]
    have completes : ackedState r p s = complete h a false (acknowledged r p s) := by
      rw [ackedState, if_pos ⟨holding, zero⟩]
      exact checkCompletion_completes handover released accepted zero
    rw [exec_ackBurst_takes ready length inv held number fixed fresh, completes, acknowledged, zero]
    rfl

end Sys2Proof.Machine.TripLaws
end

section
/-! SUPPORT. The Time Base, the Mark Qualifier, the line and the inputs keep the log and the Burst Table: they move neither but by
the entries they make (R10, R12, R22, R70, R72). -/

namespace Sys2Proof.Machine.TripLaws

open SourceLaws LineLaws InputLaws

set_option Elab.async false

/-! ### The clock state (R14 to R19) -/

theorem enterState_leavesTrips (x : ClockState) (s : State) : LeavesTrips s (enterState x s) := by
  unfold enterState
  split
  · exact .refl s
  · extract_lets g src t
    have entered : LeavesTrips s t := ⟨rfl, rfl, rfl, id⟩
    clear_value t
    refine leavesTrips_after (post_touches _ _) ?_
    split
    · exact entered.trans (judgeWorst_leavesTrips t)
    · exact entered

/-- The clock moves and then enters a state. -/
theorem enterState_after (x : ClockState) {s t : State} (h : LeavesTrips s t) : LeavesTrips s (enterState x t) :=
  h.trans (enterState_leavesTrips x t)

/-- The Time Base by itself is not read. -/
theorem leavesTrips_clk (c : TimeBase) (s : State) : LeavesTrips s { s with clk := c } := ⟨rfl, rfl, rfl, id⟩

theorem moveTo_leavesTrips (x : ClockState) (s : State) : LeavesTrips s (moveTo x s) := by
  unfold moveTo
  split
  · split <;> exact leavesTrips_clk _ s
  · exact enterState_leavesTrips x s

theorem moveTo_after (x : ClockState) {s t : State} (h : LeavesTrips s t) : LeavesTrips s (moveTo x t) :=
  h.trans (moveTo_leavesTrips x t)

theorem marksStopped_leavesTrips (s : State) : LeavesTrips s (marksStopped s) := by
  have holdover : LeavesTrips s (enterHoldover s) := enterState_after _ (leavesTrips_clk _ s)
  unfold marksStopped
  split
  · exact holdover
  · exact holdover
  · exact holdover
  · exact leavesTrips_clk _ s
  · exact .refl s
  · exact .refl s

theorem expireSilence_leavesTrips (s : State) : LeavesTrips s (expireSilence s) := by
  unfold expireSilence
  split
  · exact .refl s
  · exact (leavesTrips_clk _ s).trans (marksStopped_leavesTrips _)

theorem growHoldover_leavesTrips (s : State) : LeavesTrips s (growHoldover s) := by
  unfold growHoldover
  split
  · exact .refl s
  · dsimp only
    split
    · exact enterState_after _ (leavesTrips_clk _ s)
    · exact leavesTrips_clk _ s

theorem sourceChanged_leavesTrips (s : State) : LeavesTrips s (sourceChanged s) := by
  unfold sourceChanged
  dsimp only
  split
  · exact enterState_after _ (leavesTrips_clk _ s)
  · exact enterState_after _ (leavesTrips_clk _ s)
  · split <;> exact leavesTrips_clk _ s
  · exact leavesTrips_clk _ s

theorem leaveUnset_leavesTrips (s : State) : LeavesTrips s (leaveUnset s) := by
  unfold leaveUnset
  split
  · exact enterState_leavesTrips _ s
  · exact enterState_leavesTrips _ s
  · exact enterState_after _ (leavesTrips_clk _ s)

theorem retainClock_leavesTrips (s : State) : LeavesTrips s (retainClock s) :=
  (marksStopped_leavesTrips s).trans (leavesTrips_clk _ _)

/-! ### Steps, dates and boundaries (R1, R10, R20 to R23) -/

theorem recordStep_keeps (x : Option StepSize) (f : Bool) (y : StepSource) (s : State) : KeepsTrips s (recordStep x f y s) :=
  keepsTrips_after (request_touches _ _) (keepsTrips_after (post_touches _ _) (makeEntry_keeps _ _ s))

theorem dateStep_keeps (d : PendingDate) (s : State) : KeepsTrips s (dateStep d s) := by
  unfold dateStep
  extract_lets shown first src t
  have dated : KeepsTrips s t := (leavesTrips_clk _ s).keeps
  clear_value t
  split
  · exact dated.trans ((recordStep_keeps _ _ _ t).trans (leaveUnset_leavesTrips _).keeps)
  · exact dated.trans ((recordStep_keeps _ _ _ t).trans (reportStep_leavesTrips _ _ _).keeps)

theorem applyDate_keeps (s : State) : KeepsTrips s (applyDate s) := by
  unfold applyDate
  split
  · exact .refl s
  · dsimp only
    split
    · split
      · exact ((leavesTrips_clk _ s).trans (leaveUnset_leavesTrips _)).keeps
      · exact (leavesTrips_clk _ s).keeps
    · exact (leavesTrips_clk _ s).keeps.trans (dateStep_keeps _ _)

theorem takeBoundary_keeps (s : State) : KeepsTrips s (takeBoundary s) := by
  unfold takeBoundary
  split
  · exact .refl s
  · exact (keepsTrips_after (boundaryLine_touches _) (keepsTrips_after (startPulse_touches _) (applyDate_keeps s))).trans
      (checkBoundary_leavesTrips _).keeps

theorem stationBoundary_keeps (s : State) : KeepsTrips s (stationBoundary s) := by
  unfold stationBoundary
  split
  · exact .refl s
  · exact (leavesTrips_clk _ s).keeps.trans (takeBoundary_keeps _)

/-! ### An accepted mark (R6 to R16) -/

theorem stepAtMark_keeps (m : HandedMark) (p : Int) (s : State) : KeepsTrips s (stepAtMark m p s) := by
  have moved : ∀ t : State, KeepsTrips t (if disciplineState t.clk = .acquiring then t else moveTo .tracking t) := by
    intro t
    split
    · exact .refl t
    · exact (moveTo_leavesTrips _ t).keeps
  have reported : ∀ (x y : StationTime) (size : Option StepSize) (source : StepSource) (t : State),
      KeepsTrips t (reportStep x y (recordStep size false source
        (if disciplineState t.clk = .acquiring then t else moveTo .tracking t))) := fun x y size source t =>
    (moved t).trans ((recordStep_keeps size false source _).trans (reportStep_leavesTrips x y _).keeps)
  unfold stepAtMark
  dsimp only
  split
  · refine KeepsTrips.trans (KeepsTrips.trans ?_ (reported _ _ _ _ _)) (takeBoundary_keeps _)
    exact LeavesTrips.keeps ⟨rfl, rfl, rfl, id⟩
  · refine KeepsTrips.trans ?_ (reported _ _ _ _ _)
    exact LeavesTrips.keeps ⟨rfl, rfl, rfl, id⟩

theorem slewMoves_leavesTrips (m : HandedMark) (p : Int) (s : State) : LeavesTrips s (slewMoves m p s) := by
  unfold slewMoves
  dsimp only
  split
  · split
    · exact moveTo_after _ (leavesTrips_clk _ s)
    · exact leavesTrips_clk _ s
  · split
    · split
      · exact moveTo_after _ (leavesTrips_clk _ s)
      · exact leavesTrips_clk _ s
    · exact leavesTrips_clk _ s
  · split
    · exact moveTo_after _ (leavesTrips_clk _ s)
    · exact .refl s
  · exact .refl s

theorem markWithoutStep_leavesTrips (m : HandedMark) (a b : Bool) (d : Int) (c : Option Candidate) (s : State) :
    LeavesTrips s (markWithoutStep m a b d c s) := by
  unfold markWithoutStep markMoves
  dsimp only
  split
  · exact moveTo_after _ (leavesTrips_clk _ s)
  · split
    · exact (leavesTrips_clk _ s).trans (slewMoves_leavesTrips _ _ _)
    · exact leavesTrips_clk _ s

theorem processMark_keeps (m : HandedMark) (s : State) : KeepsTrips s (processMark m s) := by
  have started : LeavesTrips s (markStart m s) := by
    unfold markStart
    split
    · exact leavesTrips_clk _ s
    · exact .refl s
  rw [processMark_eq]
  split
  · split
    · exact (started.trans (leavesTrips_clk _ _)).keeps.trans (stepAtMark_keeps _ _ _)
    · exact (started.trans (markWithoutStep_leavesTrips _ _ _ _ _ _)).keeps
  · exact (started.trans (markWithoutStep_leavesTrips _ _ _ _ _ _)).keeps

/-! ### The Mark Qualifier (R30 to R39) -/

/-- The Mark Qualifier by itself is not read. -/
theorem leavesTrips_mq (m : MarkQualifier) (s : State) : LeavesTrips s { s with mq := m } := ⟨rfl, rfl, rfl, id⟩

theorem evaluateSource_leavesTrips (s : State) : LeavesTrips s (evaluateSource s) := by
  unfold evaluateSource
  split
  · exact .refl s
  · exact (leavesTrips_mq _ s).trans ((sourceChanged_leavesTrips _).trans (leavesTrips_mq _ _))

/-- The source is evaluated after a change in the Mark Qualifier. -/
theorem evaluateSource_after {s t : State} (h : LeavesTrips s t) : LeavesTrips s (evaluateSource t) :=
  h.trans (evaluateSource_leavesTrips t)

theorem expireFibrePresence_leavesTrips (s : State) : LeavesTrips s (expireFibrePresence s) := by
  unfold expireFibrePresence
  split
  · exact .refl s
  · exact evaluateSource_after (leavesTrips_mq _ s)

theorem expirePeerPresence_leavesTrips (s : State) : LeavesTrips s (expirePeerPresence s) := by
  unfold expirePeerPresence
  split
  · exact .refl s
  · exact evaluateSource_after (leavesTrips_mq _ s)

theorem addFault_leavesTrips (s : State) : LeavesTrips s (addFault s) := by
  unfold addFault
  split
  · exact leavesTrips_mq _ s
  · exact evaluateSource_after (leavesTrips_after (post_touches _ _) (leavesTrips_mq _ s))

theorem discardPattern_leavesTrips (s : State) : LeavesTrips s (discardPattern s) :=
  leavesTrips_after (settleRecogniser_touches _) ((leavesTrips_mq _ s).trans (addFault_leavesTrips _))

theorem expirePattern_leavesTrips (s : State) : LeavesTrips s (expirePattern s) := by
  unfold expirePattern
  split
  · exact discardPattern_leavesTrips s
  · exact .refl s

theorem handMark_keeps (f : Nat) (x : Source) (n : Option Nat) (s : State) : KeepsTrips s (handMark f x n s) :=
  (leavesTrips_mq _ s).keeps.trans (processMark_keeps _ _)

theorem acceptFibre_keeps (x : Pattern) (n : Option Nat) (s : State) : KeepsTrips s (acceptFibre x n s) :=
  (evaluateSource_after (leavesTrips_mq _ s)).keeps.trans (handMark_keeps _ _ _ _)

theorem judgeFibre_keeps (x : Pattern) (s : State) : KeepsTrips s (judgeFibre x s) := by
  unfold judgeFibre
  split
  · exact .refl s
  · split
    · exact acceptFibre_keeps _ _ s
    · exact acceptFibre_keeps _ _ s
    · unfold fibreStray
      split
      · exact acceptFibre_keeps _ _ s
      · exact ((leavesTrips_mq _ s).trans (addFault_leavesTrips _)).keeps

theorem completePattern_keeps (s : State) : KeepsTrips s (completePattern s) := by
  unfold completePattern
  split
  · exact .refl s
  · split
    · exact .refl s
    · exact (leavesTrips_mq _ s).keeps.trans (judgeFibre_keeps _ _)

theorem phaseEdge_leavesTrips (e : FibreEdge) (l : Level) (s : State) : LeavesTrips s (phaseEdge e l s) := by
  unfold phaseEdge
  dsimp only
  split
  · exact leavesTrips_mq _ s
  · exact leavesTrips_mq _ s
  · split
    · exact leavesTrips_mq _ s
    · exact discardPattern_leavesTrips s
  · split
    · exact leavesTrips_mq _ s
    · exact discardPattern_leavesTrips s
  · exact discardPattern_leavesTrips s
  · exact .refl s

theorem catchUp_keeps (s : State) : KeepsTrips s (catchUp s) := by
  have settled : KeepsTrips s (settleRecogniser s) := keepsTrips_of_touches (settleRecogniser_touches s)
  unfold catchUp
  dsimp only
  split
  · exact settled.trans (completePattern_keeps _)
  · split
    · exact settled.trans (discardPattern_leavesTrips _).keeps
    · exact settled

theorem standFibre_keeps (s : State) : KeepsTrips s (standFibre s) := by
  unfold standFibre
  split
  · exact .refl s
  · dsimp only
    split
    · exact catchUp_keeps s
    · exact (catchUp_keeps s).trans ((leavesTrips_mq _ _).trans (phaseEdge_leavesTrips _ _ _)).keeps

theorem fibreEdge_keeps (c : FibreChange) (s : State) : KeepsTrips s (fibreEdge c s) := by
  unfold fibreEdge
  split
  · unfold moveFibre
    split
    · exact .refl s
    · split
      · exact LeavesTrips.keeps ⟨rfl, rfl, rfl, id⟩
      · exact (standFibre_keeps s).trans ((catchUp_keeps _).trans (LeavesTrips.keeps ⟨rfl, rfl, rfl, id⟩))
  · exact standFibre_keeps s

/-! ### Telegrams heard (R37, R48, R49) -/

theorem judgeLine_keeps (c : StartCapture) (s : State) : KeepsTrips s (judgeLine c s) := by
  unfold judgeLine
  split
  · exact .refl s
  · split
    · exact (leavesTrips_mq _ s).keeps.trans (handMark_keeps _ _ _ _)
    · exact (leavesTrips_mq _ s).keeps.trans (handMark_keeps _ _ _ _)
    · exact (leavesTrips_mq _ s).keeps

theorem peerMark_keeps (i : BitVec 3) (g : Grade) (c : StartCapture) (s : State) : KeepsTrips s (peerMark i g c s) := by
  unfold peerMark
  split
  · exact .refl s
  · dsimp only
    split
    · exact (leavesTrips_mq _ s).keeps
    · split
      · exact (evaluateSource_after ((leavesTrips_mq _ s).trans (leavesTrips_mq _ _))).keeps.trans (judgeLine_keeps _ _)
      · exact (evaluateSource_after ((leavesTrips_mq _ s).trans (leavesTrips_mq _ _))).keeps

theorem judgeSender_touches (t : Telegram) (s : State) : Touches [.tl, .notices] s (judgeSender t s) := by
  unfold judgeSender
  split
  · exact (post_touches _ _).within
  · exact .write

theorem yieldToPeer_touches (c : StartCapture) (s : State) : Touches [.tl] s (yieldToPeer c s) := by
  unfold yieldToPeer
  split
  · exact yieldStandby_touches s
  · exact .refl

theorem takeTelegram_keeps (t : Telegram) (c : StartCapture) (s : State) : KeepsTrips s (takeTelegram t c s) := by
  have recorded : Touches [.tl, .notices] s (judgeSender t (recordTelegram t c s)) := (judgeSender_touches _ _).after .write
  exact keepsTrips_after (yieldToPeer_touches _ _) (keepsTrips_after (offerLineDate_touches _ _ _)
    (keepsTrips_after (crossCheck_touches _ _ _) ((keepsTrips_of_touches recorded).trans (peerMark_keeps _ _ _ _))))

theorem receiveTelegram_keeps (bits : List Bool) (s : State) : KeepsTrips s (receiveTelegram bits s) := by
  unfold receiveTelegram
  split
  · exact .refl s
  · split
    · exact .refl s
    · split
      · exact LeavesTrips.keeps ⟨rfl, rfl, rfl, id⟩
      · refine KeepsTrips.trans ?_ (takeTelegram_keeps _ _ _)
        exact LeavesTrips.keeps ⟨rfl, rfl, rfl, id⟩

/-! ### The inputs (R66 to R73) -/

/-- One input by itself is not read. -/
theorem leavesTrips_input (i : Fin 16) (x : TripInput) (s : State) : LeavesTrips s (s.withInput i x) := ⟨rfl, rfl, rfl, id⟩

theorem scoreInput_keeps (i : Fin 16) (n : Nat) (x : InputState) (s : State) : KeepsTrips s (scoreInput i n x s) := by
  unfold scoreInput
  dsimp only
  split
  · exact ((leavesTrips_input i _ s).trans (leavesTrips_input i _ _)).keeps.trans
      (keepsTrips_after (post_touches _ _) (makeEntry_keeps _ _ _))
  · exact (leavesTrips_input i _ s).keeps

theorem trailingEdge_keeps (i : Fin 16) (s : State) : KeepsTrips s (trailingEdge i s) := by
  have taken : ∀ t, KeepsTrips t (takeTrailing i t) := by
    intro t
    unfold takeTrailing
    split
    · exact (leavesTrips_input i _ t).keeps
    · exact scoreInput_keeps _ _ _ t
    · exact .refl t
  have moved : KeepsTrips s (moveTripLine s i false) := LeavesTrips.keeps ⟨rfl, rfl, rfl, id⟩
  unfold trailingEdge
  split
  · exact .refl s
  · dsimp only
    split
    · exact moved.trans (taken _)
    · exact moved

theorem working_of_qualified {x : InputState} {i : Fin 16} {c : Capture} {s : State} (due : qualified x i s = some c) :
    working s = true := by
  unfold qualified at due
  split at due
  · cases due
  · split at due
    next h => exact h.1
    next => cases due

theorem qualifyAssert_keeps (i : Fin 16) (s : State) : KeepsTrips s (qualifyAssert i s) := by
  cases due : qualified .qualifying i s with
  | none =>
    have idle : qualifyAssert i s = s := by simp only [qualifyAssert, due]
    rw [idle]
    exact .refl s
  | some c =>
    rw [qualifyAssert_eq due]
    exact (makeAssert_keeps i c.stamp false (working_of_qualified due)).trans
      ((leavesTrips_input i _ _).keeps.trans (scoreInput_keeps _ _ _ _))

theorem qualifyRelease_keeps (i : Fin 16) (s : State) : KeepsTrips s (qualifyRelease i s) := by
  unfold qualifyRelease
  split
  · exact .refl s
  · dsimp only
    split
    · exact (makeEntry_keeps _ _ s).trans (leavesTrips_input i _ _).keeps
    · exact (leavesTrips_input i _ s).keeps

theorem allowInput_keeps (args : List Byte) {s : State} (works : working s = true) : KeepsTrips s (allowInput args s).state := by
  unfold allowInput
  split
  · exact .refl s
  next i _ =>
    split
    · exact .refl s
    · dsimp only
      split
      · have asserted : ∀ x, KeepsTrips (s.withInput i x) (makeAssert i (stampNow s) true (s.withInput i x)) := fun x =>
          makeAssert_keeps i (stampNow s) true works
        exact (leavesTrips_input i _ s).keeps.trans (asserted _)
      · exact (leavesTrips_input i _ s).keeps

end Sys2Proof.Machine.TripLaws
end

section
/-! PROOF. Every step keeps the log safe (O8) and the Burst Table safe (O9): the commands, the supply and the starts, then row by
row. -/

namespace Sys2Proof.Machine.TripLaws

open LineLaws InputLaws

set_option Elab.async false

/-! ### Frames -/

/-- A frame keeps the log and the table when what takes it does, in a part that works. -/
theorem atRise_keeps {p : Port} {take : State → State} (s : State)
    (htake : ∀ u, working u = true → KeepsTrips u (take u)) : KeepsTrips s (atRise p take s) := by
  have ended : KeepsTrips s (endTransaction p s) := keepsTrips_of_touches (endTransaction_touches p s)
  unfold atRise
  split
  · exact .refl s
  next t _ =>
    dsimp only
    split
    · exact ended
    next acts =>
      have works : working (endTransaction p s) = true := by
        by_contra idle
        exact acts (.inr (.inr (Bool.eq_false_iff.2 idle)))
      split
      · exact keepsTrips_after (bs := [.ports]) .write ended
      · exact ended.trans (htake _ works)

theorem carryOut_keeps {p : Port} {args : List Byte} {good : Bool} {body : State → Reply} (s : State)
    (hbody : ∀ u, working u = true → KeepsTrips u (body u).state) : KeepsTrips s (carryOut p args good body s) := by
  have answers : ∀ (x : Status) (r : Result) (u : State), KeepsTrips u (answerPort p x r u) :=
    fun x r u => keepsTrips_of_touches (answerPort_touches p x r u)
  refine atRise_keeps s fun u works => ?_
  split
  · exact answers _ _ u
  · split
    · exact answers _ _ u
    · exact (hbody u works).trans (answers _ _ _)

/-- A command whose block leaves the log and the table. -/
theorem carryOut_leavesTrips {p : Port} {args : List Byte} {good : Bool} {body : State → Reply} (s : State)
    (hbody : ∀ u, LeavesTrips u (body u).state) : KeepsTrips s (carryOut p args good body s) :=
  carryOut_keeps s fun u _ => (hbody u).keeps

/-- A command whose block touches neither the log nor the table, neither the shift nor the supply. -/
theorem carryOut_touches_trips {bs : List Block} {p : Port} {args : List Byte} {good : Bool} {body : State → Reply} (s : State)
    (h : ∀ u, Touches bs u (body u).state) (log : .log ∉ bs := by decide) (bursts : .bursts ∉ bs := by decide)
    (shift : .shift ∉ bs := by decide) (supply : .supply ∉ bs := by decide) : KeepsTrips s (carryOut p args good body s) :=
  carryOut_leavesTrips s fun u => leavesTrips_of_touches (h u) log bursts shift supply

/-- A command that only reads. -/
theorem carryOut_reads_trips {p : Port} {args : List Byte} {good : Bool} {result : State → Result} (s : State) :
    KeepsTrips s (carryOut p args good (fun u => { state := u, status := .done, result := result u }) s) :=
  carryOut_leavesTrips s LeavesTrips.refl

theorem unlessLocked_keeps {p : Port} {g : Group} {body : State → Reply} {s : State} (h : KeepsTrips s (body s).state) :
    KeepsTrips s (unlessLocked p g body s).state := by
  unfold unlessLocked
  split
  · exact .refl s
  · exact h

theorem unlessLocked_leavesTrips {p : Port} {g : Group} {body : State → Reply} {s : State}
    (h : LeavesTrips s (body s).state) : LeavesTrips s (unlessLocked p g body s).state := by
  unfold unlessLocked
  split
  · exact .refl s
  · exact h

/-! ### The commands of the clock, the marks and the line -/

theorem setClock_touches (p : Port) (args : List Byte) (s : State) :
    Touches [.settings, .clk] s (setClock p args s).state := by
  unfold setClock
  dsimp only
  split
  · exact .refl
  · exact unlessLocked_touches .write

theorem setDate_touches (p : Port) (args : List Byte) (s : State) : Touches [.clk, .notices] s (setDate p args s).state := by
  unfold setDate
  dsimp only
  split
  · exact .refl
  · exact offerToSlot_touches _ _ _ s

theorem setLineRole_touches (p : Port) (args : List Byte) (s : State) :
    Touches [.settings, .tl] s (setLineRole p args s).state := by
  unfold setLineRole
  split
  · exact .refl
  · refine unlessLocked_touches ?_
    split
    · exact .write
    · exact .write

theorem readLine_touches (args : List Byte) (s : State) : Touches [.tl] s (readLine args s).state := by
  unfold readLine
  split
  · exact .refl
  · dsimp only
    split
    · exact .write
    · exact .refl

theorem rearmSource_leavesTrips (s : State) : LeavesTrips s (rearmSource s).state :=
  evaluateSource_after (leavesTrips_mq _ s)

theorem setLineMarks_leavesTrips (p : Port) (args : List Byte) (s : State) :
    LeavesTrips s (setLineMarks p args s).state := by
  unfold setLineMarks
  dsimp only
  split
  · exact .refl s
  · refine unlessLocked_leavesTrips ?_
    dsimp only
    split
    · refine evaluateSource_after ?_
      exact ⟨rfl, rfl, rfl, id⟩
    · exact ⟨rfl, rfl, rfl, id⟩

/-! ### The commands of the log and the bursts -/

/-- A cursor set at an entry of the ring or at the newest end (R86). -/
theorem logInv_of_cursor {s t : State} {p : Port} {c : BitVec 16} (hs : LogInv s) (ring : t.log.ring = s.log.ring)
    (next : t.log.nextSeq = s.log.nextSeq) (cursors : t.log.cursors = s.log.cursors.set p c)
    (within : (s.log.nextSeq - c).toNat ≤ s.log.ring.length) : LogInv t := by
  obtain ⟨most, numbers, places⟩ := hs
  unfold LogInv
  rw [ring, next, cursors]
  refine ⟨most, numbers, fun q => ?_⟩
  by_cases own : p = q
  · subst own
    rw [PerPort.get_set_same]
    exact within
  · rw [PerPort.get_set_other _ _ _ _ own]
    exact places q

/-- READ LOG moves the cursor past the entries it gives, none of which lies past the newest (R87). -/
theorem readLog_logInv (p : Port) (n : Nat) {s : State} (hs : LogInv s) : LogInv (readLog p n s).state := by
  refine logInv_of_cursor hs rfl rfl rfl ?_
  have oldest := oldestSeq_eq hs
  obtain ⟨most, _, places⟩ := hs
  have size : Config.ringSize = 1024 := rfl
  have place := places p
  have given : ((s.log.ring.drop (s.log.cursors.get p - s.log.oldestSeq).toNat).take (clampNat 1 8 n)).length
      ≤ s.log.ring.length - (s.log.cursors.get p - s.log.oldestSeq).toNat := by
    rw [List.length_take, List.length_drop]
    exact min_le_right _ _
  generalize ((s.log.ring.drop (s.log.cursors.get p - s.log.oldestSeq).toNat).take (clampNat 1 8 n)).length = k at given
  rw [oldest] at given
  bv_omega

theorem readLog_keeps (p : Port) (n : Nat) (s : State) : KeepsTrips s (readLog p n s).state :=
  ⟨readLog_logInv p n, id⟩

/-- SEEK LOG sets the cursor at an entry held, at the oldest, or at the newest end (R88). -/
theorem seekLog_logInv (p : Port) (x : BitVec 16) {s : State} (hs : LogInv s) : LogInv (seekLog p x s).state := by
  refine logInv_of_cursor hs rfl rfl rfl ?_
  have oldest := oldestSeq_eq hs
  obtain ⟨most, _, _⟩ := hs
  have size : Config.ringSize = 1024 := rfl
  unfold seekTarget
  rw [oldest]
  split
  next held => bv_omega
  next =>
    split
    next newest => simp [newest]
    next =>
      split
      · simp
      · bv_omega

theorem seekLog_keeps (p : Port) (x : BitVec 16) (s : State) : KeepsTrips s (seekLog p x s).state :=
  ⟨seekLog_logInv p x, id⟩

theorem ackBurst_keeps (p : Port) (n : BitVec 16) (s : State) : KeepsTrips s (ackBurst p n s).state := by
  unfold ackBurst
  split
  · exact .refl s
  next r found =>
    obtain ⟨held, _⟩ := find_number found
    split
    · exact .refl s
    · split
      · exact .refl s
      next fresh => exact replaceRecord_keeps p held (by simpa using fresh)

theorem setBurstGap_keeps (p : Port) (args : List Byte) (s : State) : KeepsTrips s (setBurstGap p args s).state := by
  refine unlessLocked_keeps (KeepsTrips.trans ?_ (judgeGap_keeps _))
  exact LeavesTrips.keeps ⟨rfl, rfl, rfl, id⟩

/-! ### The commands of the shift -/

theorem openHandover_leavesTrips (p : Port) (s : State) : LeavesTrips s (openHandover p s).state := by
  unfold openHandover
  split
  · exact openHandoverBy_leavesTrips _ _ _ s
  · exact .refl s

theorem withHandover_leavesTrips (h : Handover) (s : State) : LeavesTrips s (withHandover h s) := ⟨rfl, rfl, rfl, id⟩

theorem releaseShift_leavesTrips (p : Port) (s : State) : LeavesTrips s (releaseShift p s).state := by
  unfold releaseShift
  split
  · exact .refl s
  · exact .refl s
  · exact (withHandover_leavesTrips _ s).trans (checkCompletion_leavesTrips _)

theorem acceptShift_leavesTrips (p : Port) (crew : Nat) (s : State) : LeavesTrips s (acceptShift p crew s).state := by
  unfold acceptShift
  split
  · exact .refl s
  · split
    · exact .refl s
    · exact .refl s
    · split
      · exact .refl s
      · exact (withHandover_leavesTrips _ s).trans (checkCompletion_leavesTrips _)

theorem forceHandover_leavesTrips (p : Port) (crew : Nat) (s : State) : LeavesTrips s (forceHandover p crew s).state := by
  unfold forceHandover
  split
  · exact .refl s
  · split
    · exact .refl s
    · exact .refl s
    · split
      · exact .refl s
      · exact complete_leavesTrips _ _ _ s

theorem cancelHandover_leavesTrips (s : State) : LeavesTrips s (cancelHandover s).state := by
  unfold cancelHandover
  split
  · exact .refl s
  · exact ⟨rfl, rfl, rfl, id⟩

theorem setSchedule_leavesTrips (p : Port) (args : List Byte) (s : State) : LeavesTrips s (setSchedule p args s).state := by
  unfold setSchedule
  split
  · exact .refl s
  · split
    · exact .refl s
    · split
      · exact .refl s
      · exact unlessLocked_leavesTrips ⟨rfl, rfl, rfl, id⟩

theorem setShiftTimes_leavesTrips (p : Port) (args : List Byte) (s : State) :
    LeavesTrips s (setShiftTimes p args s).state := by
  refine unlessLocked_leavesTrips (LeavesTrips.trans ?_ (judgeWindow_leavesTrips _))
  exact ⟨rfl, rfl, rfl, id⟩

/-! ### The pins -/

theorem changeCode_touches (u : Fin 8) (code : BitVec 4) (s : State) : Touches [.pins, .units] s (changeCode u code s) := by
  unfold changeCode
  split
  · exact .refl
  · dsimp only
    split
    · exact (decodeUnit_touches _ _).after .write
    · exact .write

theorem lineReset_touches (s : State) : Touches [.pins, .clk, .ports, .locks, .notices] s (lineReset s) := by
  unfold lineReset
  split
  · exact .refl
  · dsimp only
    split
    · exact .write
    · exact .write

/-! ### The supply (R110, R144 to R150) -/

theorem restoreRises_leavesTrips (s : State) : LeavesTrips s (restoreRises s) := by
  unfold restoreRises
  split
  · exact .refl s
  · dsimp only
    split
    · exact ⟨rfl, rfl, rfl, id⟩
    · exact ⟨rfl, rfl, rfl, id⟩

theorem restoreFalls_leavesTrips (s : State) : LeavesTrips s (restoreFalls s) := by
  unfold restoreFalls
  split
  · exact .refl s
  · exact ⟨rfl, rfl, rfl, id⟩

theorem enterWarning_leavesTrips {s : State} (normal : s.supply.state = .normal) : LeavesTrips s (enterWarning s) := by
  have idle : working (enterWarning s) = false → working s = false := by simp [working, enterWarning, normal]
  exact ⟨rfl, rfl, rfl, idle⟩

theorem warningFall_leavesTrips (s : State) : LeavesTrips s (warningFall s) := by
  have moved : LeavesTrips s (moveSupply .belowWarning s) := ⟨rfl, rfl, rfl, id⟩
  unfold warningFall
  split
  · exact .refl s
  · dsimp only
    split
    next normal =>
      obtain ⟨_, normal⟩ := normal
      exact leavesTrips_after (startProgram_touches _) (moved.trans (enterWarning_leavesTrips normal))
    next => exact ⟨rfl, rfl, rfl, id⟩

theorem returnToNormal_leavesTrips (s : State) : LeavesTrips s (returnToNormal s) := by
  unfold returnToNormal
  split
  · exact .refl s
  next due =>
    have warned : s.supply.state = .warning := by
      simp only [returnDue, Bool.not_eq_false, Bool.and_eq_true, decide_eq_true_eq] at due
      obtain ⟨state, _⟩ := due
      exact state
    have idle : working { s with supply := { s.supply with state := .normal, restore := none } } = false
        → working s = false := by simp [working, warned]
    exact ⟨rfl, rfl, rfl, idle⟩

/-- An empty log with the cursors at its newest end (R84). -/
theorem ringFits_reset : RingFits 1024 TripLog.reset :=
  ⟨Nat.zero_le _, rfl, fun p => by cases p <;> decide⟩

/-- An empty table (R91). -/
theorem tableFits_reset : TableFits BurstTable.reset :=
  ⟨Nat.zero_le _, List.nodup_nil, nofun, nofun, rfl⟩

/-- A state with an empty log and an empty table is safe. -/
theorem keepsTrips_of_reset {t : State} (s : State) (log : t.log = .reset) (bursts : t.bursts = .reset)
    (hold : t.shift.holdCount = 0) : KeepsTrips s t := by
  refine ⟨fun _ => ?_, fun _ => (burstInv_iff t).2 ?_⟩
  · rw [logInv_iff, log]
    exact ringFits_reset
  · rw [bursts]
    exact ⟨tableFits_reset, hold, fun _ => rfl⟩

/-- A part that stops has an empty log and an empty table. -/
theorem stopPart_keepsTrips (s : State) : KeepsTrips s (stopPart s) := keepsTrips_of_reset s rfl rfl rfl

/-- RETAIN entry closes the burst that is open (R110), from a table in step. -/
theorem retainBursts_trips {s : State} (fits : TableFits s.bursts) (agrees : s.shift.holdCount = s.bursts.holdCount) :
    BurstInv (retainBursts s) := by
  refine (burstInv_iff _).2 ?_
  unfold retainBursts
  split
  next none =>
    have closed := openRef_of_openRecord_none fits none
    exact ⟨fits, agrees, fun _ => closed⟩
  next r found =>
    obtain ⟨held, live⟩ := (openRecord_eq_some fits r).1 found
    exact ⟨closeRecord_fits fits held live, agrees, fun _ => rfl⟩

/-- Up to the table, RETAIN entry leaves the log and the table. -/
theorem retainBefore_leavesTrips (s : State) :
    LeavesTrips s (retainInputs (retainLine (retainMarks (retainClock (tearStore s))))) := by
  have torn : LeavesTrips s (tearStore s) := ⟨rfl, rfl, rfl, id⟩
  exact leavesTrips_after (retainInputs_touches _) (leavesTrips_after (retainLine_touches _)
    (leavesTrips_after (retainMarks_touches _) (torn.trans (retainClock_leavesTrips _))))

theorem retainShift_leavesTrips (s : State) : LeavesTrips s (retainShift s) := ⟨rfl, rfl, rfl, id⟩

/-- RETAIN entry closes the open burst, whether the part still works or not. -/
theorem retainBlocks_bursts {s : State} (fits : TableFits s.bursts) (agrees : s.shift.holdCount = s.bursts.holdCount) :
    BurstInv (retainBlocks s) := by
  obtain ⟨_, bursts, hold, _⟩ := retainBefore_leavesTrips s
  unfold retainBlocks
  generalize retainInputs _ = u at bursts hold
  have closed : BurstInv (retainBursts u) := retainBursts_trips (bursts ▸ fits) (by rw [hold, bursts, agrees])
  have units : LeavesTrips (retainBursts u) (retainUnits (retainBursts u)) := leavesTrips_of_touches (retainUnits_touches _)
  have after : LeavesTrips (retainBursts u) (stopPorts (retainNotices (retainShift (retainUnits (retainBursts u))))) :=
    leavesTrips_after (stopPorts_touches _) (leavesTrips_after (retainNotices_touches _)
      (units.trans (retainShift_leavesTrips _)))
  obtain ⟨_, table⟩ := after.keeps
  exact table closed

theorem enterRetain_keeps (s : State) : KeepsTrips s (enterRetain s) := by
  have retained : KeepsTrips s (retainBlocks (openGap s)) := by
    refine ⟨fun hs => ?_, fun hs => ?_⟩
    · have log : (retainBlocks (openGap s)).log = s.log := (retainBlocks_touches _).same .log
      rw [logInv_iff, log]
      exact hs
    · obtain ⟨fits, agrees, _⟩ := (burstInv_iff s).1 hs
      exact retainBlocks_bursts fits agrees
  unfold enterRetain
  dsimp only
  split
  · exact stopPart_keepsTrips _
  · exact retained

theorem lowFall_keeps (s : State) : KeepsTrips s (lowFall s) := by
  have moved : LeavesTrips s (moveSupply .belowLow s) := ⟨rfl, rfl, rfl, id⟩
  have restored : ∀ u, LeavesTrips u (setRestore none u) := fun _ => ⟨rfl, rfl, rfl, id⟩
  unfold lowFall
  split
  · exact .refl s
  · dsimp only
    split
    · exact moved.keeps
    · split
      next normal => exact (moved.trans (enterWarning_leavesTrips normal)).keeps.trans (enterRetain_keeps _)
      next => exact moved.keeps.trans (enterRetain_keeps _)
      next => exact (moved.trans (restored _)).keeps

theorem loseCell_keeps (s : State) : KeepsTrips s (loseCell s) := by
  unfold loseCell
  split
  · exact .refl s
  · split
    · exact stopPart_keepsTrips s
    · exact LeavesTrips.keeps ⟨rfl, rfl, rfl, id⟩

/-! ### The starts (R111, R147 to R150) -/

theorem warmBlocks_leavesTrips (s : State) : LeavesTrips s (warmBlocks s) := by
  have marks : LeavesTrips s (warmMarks (warmClock s)) := evaluateSource_after (leavesTrips_clk _ s)
  have units : LeavesTrips s (warmUnits (warmInputs (warmLine (warmMarks (warmClock s))))) :=
    leavesTrips_after (warmUnits_touches _) (leavesTrips_after (warmInputs_touches _)
      (leavesTrips_after (warmLine_touches _) marks))
  exact leavesTrips_after (freeLocks_touches _) (leavesTrips_after (stopPorts_touches _)
    (leavesTrips_after (repairStore_touches _) (units.trans (warmShift_leavesTrips _))))

theorem warmStart_keeps (s : State) : KeepsTrips s (warmStart s) := by
  unfold warmStart
  split
  · exact .refl s
  next due =>
    have retained : s.supply.state = .retain := by
      simp only [warmDue, Bool.not_eq_false, Bool.and_eq_true, decide_eq_true_eq] at due
      obtain ⟨state, _⟩ := due
      exact state
    have returned : LeavesTrips s { s with supply := { s.supply with state := .normal, restore := none } } :=
      ⟨rfl, rfl, rfl, fun _ => by simp [working, retained]⟩
    have closed : ∀ u, LeavesTrips u (closeGap u) := fun _ => ⟨rfl, rfl, rfl, id⟩
    dsimp only
    generalize ({ s with supply := { s.supply with state := .normal, restore := none } } : State) = t at returned
    have logged : KeepsTrips s (recordGap (startNotices .supplyReturn t)) :=
      (leavesTrips_after (startNotices_touches _ t) returned).keeps.trans (makeEntry_keeps _ _ _)
    exact logged.trans ((warmBlocks_leavesTrips _).trans (closed _)).keeps

theorem powerUp_keeps (s : State) : KeepsTrips s (powerUp s) := by
  unfold powerUp
  split
  · exact keepsTrips_of_reset s rfl rfl rfl
  · exact .refl s

theorem endBell_leavesTrips (s : State) : LeavesTrips s (endBell s) := by
  unfold endBell
  split
  · exact .refl s
  · exact ⟨rfl, rfl, rfl, id⟩

end Sys2Proof.Machine.TripLaws
end

section
/-! PROOF. Every step keeps the log safe (O8) and the Burst Table safe (O9): row by row. -/

namespace Sys2Proof.Machine.TripLaws

open SourceLaws LineLaws InputLaws

set_option Elab.async false

theorem keepsTrips_next {s t u : State} (kept : KeepsTrips s t)
    (stepped : (Host.Outcome.next t : Outcome) = .next u) : KeepsTrips s u := by
  cases stepped
  exact kept

theorem exec_keepsTrips {s t : State} (c : Instr) (h : exec c s = .next t) : KeepsTrips s t := by
  cases c with
  | stationSecondBoundary => exact keepsTrips_next (stationBoundary_keeps s) h
  | secOutPulseEnd => exact keepsTrips_next (keepsTrips_of_touches (endPulse_touches s)) h
  | elapsedTenth => exact keepsTrips_next (keepsTrips_of_touches (takeTenth_touches s)) h
  | fibrePhaseEdge change => exact keepsTrips_next (fibreEdge_keeps change s) h
  | patternTimeout => exact keepsTrips_next (expirePattern_leavesTrips s).keeps h
  | patternComplete => exact keepsTrips_next (completePattern_keeps s) h
  | markSilenceExpiry => exact keepsTrips_next (expireSilence_leavesTrips s).keeps h
  | holdoverGrowth => exact keepsTrips_next (growHoldover_leavesTrips s).keeps h
  | fibrePresenceExpiry => exact keepsTrips_next (expireFibrePresence_leavesTrips s).keeps h
  | peerPresenceExpiry => exact keepsTrips_next (expirePeerPresence_leavesTrips s).keeps h
  | readClock p args => exact keepsTrips_next (carryOut_reads_trips s) h
  | setClock p args => exact keepsTrips_next (carryOut_touches_trips s (setClock_touches p args)) h
  | setDate p args => exact keepsTrips_next (carryOut_touches_trips s (setDate_touches p args)) h
  | readSource p args => exact keepsTrips_next (carryOut_reads_trips s) h
  | rearmSource p args => exact keepsTrips_next (carryOut_leavesTrips s rearmSource_leavesTrips) h
  | setMarkWindow p args => exact keepsTrips_next (carryOut_touches_trips s (setMarkWindow_touches p args)) h
  | setLineMarks p args => exact keepsTrips_next (carryOut_leavesTrips s (setLineMarks_leavesTrips p args)) h
  | telegramJudged bits => exact keepsTrips_next (receiveTelegram_keeps bits s) h
  | brokenStartBit => exact keepsTrips_next (keepsTrips_of_touches (breakStart_touches s)) h
  | telegramSent => exact keepsTrips_next (keepsTrips_of_touches (completeSend_touches s)) h
  | arbitrationLoss => exact keepsTrips_next (keepsTrips_of_touches (loseArbitration_touches s)) h
  | idClash => exact keepsTrips_next (keepsTrips_of_touches (clashId_touches s)) h
  | sendFault => exact keepsTrips_next (keepsTrips_of_touches (failSend_touches s)) h
  | setLineRole p args => exact keepsTrips_next (carryOut_touches_trips s (setLineRole_touches p args)) h
  | setLine p args => exact keepsTrips_next (carryOut_touches_trips s (setLine_touches p args)) h
  | readLine p args => exact keepsTrips_next (carryOut_touches_trips s (readLine_touches args)) h
  | tripLeadingEdge k => exact keepsTrips_next (keepsTrips_of_touches (leadingEdge_touches k s)) h
  | tripTrailingEdge k => exact keepsTrips_next (trailingEdge_keeps k s) h
  | assertQualifies k => exact keepsTrips_next (qualifyAssert_keeps k s) h
  | releaseQualifies k => exact keepsTrips_next (qualifyRelease_keeps k s) h
  | allowInput p args => exact keepsTrips_next (carryOut_keeps s fun _ works => allowInput_keeps args works) h
  | setInput p args => exact keepsTrips_next (carryOut_touches_trips s (setInput_touches p args)) h
  | setChatterInterval p args => exact keepsTrips_next (carryOut_touches_trips s (setChatterInterval_touches p args)) h
  | readInputs p args => exact keepsTrips_next (carryOut_reads_trips s) h
  | readInput p args => exact keepsTrips_next (carryOut_touches_trips s (readInput_touches args)) h
  | readLog p args => exact keepsTrips_next (carryOut_keeps s fun u _ => readLog_keeps p (argNumber args 0 1) u) h
  | seekLog p args =>
    exact keepsTrips_next (carryOut_keeps s fun u _ => seekLog_keeps p (BitVec.ofNat 16 (argNumber args 0 2)) u) h
  | readLogState p args => exact keepsTrips_next (carryOut_reads_trips s) h
  | firstOutWindowClose => exact keepsTrips_next (closeWindow_keeps s) h
  | burstGapExpiry => exact keepsTrips_next (judgeGap_keeps s) h
  | ackBurst p args =>
    exact keepsTrips_next (carryOut_keeps s fun u _ => ackBurst_keeps p (BitVec.ofNat 16 (argNumber args 0 2)) u) h
  | listBursts p args => exact keepsTrips_next (carryOut_reads_trips s) h
  | readBurst p args =>
    exact keepsTrips_next (carryOut_touches_trips s (readBurst_touches (BitVec.ofNat 16 (argNumber args 0 2)))) h
  | setFilter p args => exact keepsTrips_next (carryOut_touches_trips s (setFilter_touches p args)) h
  | setBurstGap p args => exact keepsTrips_next (carryOut_keeps s fun u _ => setBurstGap_keeps p args u) h
  | readFilters p args => exact keepsTrips_next (carryOut_reads_trips s) h
  | unitCodeChange u code => exact keepsTrips_next (keepsTrips_of_touches (changeCode_touches u code s)) h
  | settleExpiry u => exact keepsTrips_next (keepsTrips_of_touches (expireSettle_touches u s)) h
  | setModeTable p args => exact keepsTrips_next (carryOut_touches_trips s (setModeTable_touches p args)) h
  | setUnits p args => exact keepsTrips_next (carryOut_touches_trips s (setUnits_touches p args)) h
  | setServiceLimit p args => exact keepsTrips_next (carryOut_touches_trips s (setServiceLimit_touches p args)) h
  | presetTally p args => exact keepsTrips_next (carryOut_touches_trips s (presetTally_touches p args)) h
  | readUnit p args => exact keepsTrips_next (carryOut_touches_trips s (readUnit_touches args)) h
  | readUnits p args => exact keepsTrips_next (carryOut_reads_trips s) h
  | readModeTable p args => exact keepsTrips_next (carryOut_reads_trips s) h
  | programEnd verified => exact keepsTrips_next (keepsTrips_of_touches (endProgram_touches verified s)) h
  | intervalTimerExpiry => exact keepsTrips_next (keepsTrips_of_touches (expireInterval_touches s)) h
  | hourlyTimerExpiry => exact keepsTrips_next (keepsTrips_of_touches (expireHourly_touches s)) h
  | setCommitInterval p args => exact keepsTrips_next (carryOut_touches_trips s (setCommitInterval_touches p args)) h
  | readStore p args => exact keepsTrips_next (carryOut_reads_trips s) h
  | warningEntry => exact keepsTrips_next (warningFall_leavesTrips s).keeps h
  | supplyRestoreRise => exact keepsTrips_next (restoreRises_leavesTrips s).keeps h
  | supplyRestoreFall => exact keepsTrips_next (restoreFalls_leavesTrips s).keeps h
  | returnToNormal => exact keepsTrips_next (returnToNormal_leavesTrips s).keeps h
  | retainEntry => exact keepsTrips_next (lowFall_keeps s) h
  | warmStart => exact keepsTrips_next (warmStart_keeps s) h
  | backupCellLost => exact keepsTrips_next (loseCell_keeps s) h
  | coldStart => exact keepsTrips_next (powerUp_keeps s) h
  | handoverWindowExpiry => exact keepsTrips_next (judgeWindow_leavesTrips s).keeps h
  | bellPulseEnd => exact keepsTrips_next (endBell_leavesTrips s).keeps h
  | openHandover p args => exact keepsTrips_next (carryOut_leavesTrips s (openHandover_leavesTrips p)) h
  | releaseShift p args => exact keepsTrips_next (carryOut_leavesTrips s (releaseShift_leavesTrips p)) h
  | acceptShift p args => exact keepsTrips_next (carryOut_leavesTrips s (acceptShift_leavesTrips p (argNumber args 0 1))) h
  | forceHandover p args => exact keepsTrips_next (carryOut_leavesTrips s (forceHandover_leavesTrips p (argNumber args 0 1))) h
  | cancelHandover p args => exact keepsTrips_next (carryOut_leavesTrips s cancelHandover_leavesTrips) h
  | setSchedule p args => exact keepsTrips_next (carryOut_leavesTrips s (setSchedule_leavesTrips p args)) h
  | setShiftTimes p args => exact keepsTrips_next (carryOut_leavesTrips s (setShiftTimes_leavesTrips p args)) h
  | readShift p args => exact keepsTrips_next (carryOut_reads_trips s) h
  | readShiftRecord p args => exact keepsTrips_next (carryOut_touches_trips s (readShiftRecord_touches (argNumber args 0 2))) h
  | fetch p lengthByte clocked => exact keepsTrips_next (keepsTrips_of_touches (fetchFrame_touches p lengthByte _ s)) h
  | brokenFrame p edges bytes => exact keepsTrips_next (keepsTrips_of_touches (brokenFrame_touches p _ s)) h
  | unknownCommand p code args => exact keepsTrips_next (keepsTrips_of_touches (unknownCommand_touches p code args s)) h
  | saveSettings p args => exact keepsTrips_next (keepsTrips_of_touches (saveSettings_touches p args s)) h
  | readPorts p args => exact keepsTrips_next (carryOut_reads_trips s) h
  | lockGroup p args => exact keepsTrips_next (carryOut_touches_trips s (lockGroup_touches p args)) h
  | unlockGroup p args => exact keepsTrips_next (carryOut_touches_trips s (unlockGroup_touches p args)) h
  | lineReset => exact keepsTrips_next (keepsTrips_of_touches (lineReset_touches s)) h
  | resetNRise => exact keepsTrips_next (keepsTrips_of_touches (t := resetRises s) (bs := [.pins]) .write) h
  | clearNotices p args => exact keepsTrips_next (carryOut_touches_trips s (clearNotices_touches p args)) h
  | holdoffExpiry p => exact keepsTrips_next (keepsTrips_of_touches (expireHoldoff_touches p s)) h
  | setNotices p args => exact keepsTrips_next (carryOut_touches_trips s (setNotices_touches p args)) h
  | readNotices p args => exact keepsTrips_next (carryOut_touches_trips s (readNotices_touches args)) h
  | startEdge => exact keepsTrips_next (keepsTrips_of_touches (fallLine_touches s)) h
  | timeLineRise => exact keepsTrips_next (keepsTrips_of_touches (raiseLine_touches s)) h
  | selectFall p => exact keepsTrips_next (keepsTrips_of_touches (selectFalls_touches p s)) h

theorem step_keepsTrips {s t : State} (stepped : step s = .next t) : KeepsTrips s t := by
  unfold step at stepped
  split at stepped
  next => exact keepsTrips_next (keepsTrips_of_touches (tick_touches s)) stepped
  next c rest _ =>
    have popped : KeepsTrips s { s with pending := rest } := keepsTrips_of_touches (bs := [.pending]) .write
    exact popped.trans (exec_keepsTrips c stepped)

/-- Settles O8: each row keeps the log safe, by the entries it makes and the cursor it moves, and so does a period in which no
command waits. -/
theorem everyStepKeepsTheLogSafe : Obligations.EveryStepKeepsTheLogSafe := by
  unfold Obligations.EveryStepKeepsTheLogSafe
  intro s t hs stepped
  obtain ⟨log, _⟩ := step_keepsTrips stepped
  exact log hs

/-- Settles O9: each row keeps the Burst Table safe, by what it opens, closes and acknowledges, and so does a period in which no
command waits. -/
theorem everyStepKeepsTheBurstsSafe : Obligations.EveryStepKeepsTheBurstsSafe := by
  unfold Obligations.EveryStepKeepsTheBurstsSafe
  intro s t hs stepped
  obtain ⟨_, table⟩ := step_keepsTrips stepped
  exact table hs

end Sys2Proof.Machine.TripLaws
end
